-- ==== Sys2Proof/Word.lean ====
section
/-!
DEFINITION. Word.lean: the byte, and the eight-byte buffer in which a frame stands.

`00_scope.md` rule R7: a byte is 8 bits, unsigned; `BUF[i]` is the byte at offset `i`, 0 to 7, and offset 0 is
the first byte transmitted or received.
-/

namespace Sys2Proof

/-- A byte: 8 bits, unsigned (`00_scope.md` rule R7). -/
abbrev Byte := BitVec 8

/-- An eight-byte buffer: `TXBUF`, `RXBUF`, or one frame, `b0` at offset 0 (`10_state.md` rules R18, R19;
`30_encoding.md` rule R60). -/
structure Buf8 where
  b0 : Byte
  b1 : Byte
  b2 : Byte
  b3 : Byte
  b4 : Byte
  b5 : Byte
  b6 : Byte
  b7 : Byte
  deriving DecidableEq, Repr

/-- The buffer of eight zero bytes. -/
def Buf8.zero : Buf8 := ⟨0, 0, 0, 0, 0, 0, 0, 0⟩

/-- The buffer's bytes, offset 0 first. -/
def Buf8.toList (f : Buf8) : List Byte := [f.b0, f.b1, f.b2, f.b3, f.b4, f.b5, f.b6, f.b7]

end Sys2Proof
end

