-- ==== Sys2Proof/Machine/Codec.lean ====
section
/-!
DEFINITION. Machine/Codec.lean: the pure functions of the frame codec (`00_scope.md` rule R8, `41_codec.md` rules
R80 to R82, `30_encoding.md` rules R60, R61) and byte access to a buffer.
-/

namespace Sys2Proof

/-- START, the start marker (`00_scope.md` rule R5). -/
def startMarker : Byte := 0x7E

/-- END, the end marker and read terminator (`00_scope.md` rule R5). -/
def endMarker : Byte := 0xEF

/-- `Sum`: the integer sum of the four payload bytes, 0 to 1020 (`41_codec.md` rule R80). -/
def payloadSum (o f p1 p2 : Byte) : Nat := o.toNat + f.toNat + p1.toNat + p2.toNat

/-- `Cksum = trunc_16(0xFFFF - Sum + 1)`; the subtraction never borrows (`41_codec.md` rule R81). -/
def cksum (o f p1 p2 : Byte) : BitVec 16 := BitVec.ofNat 16 (0xFFFF - payloadSum o f p1 p2 + 1)

/-- checksumHigh = `ck[15:8]` (`30_encoding.md` rule R61). -/
def highByte (ck : BitVec 16) : Byte := ck.extractLsb' 8 8

/-- checksumLow = `ck[7:0]` (`30_encoding.md` rule R61). -/
def lowByte (ck : BitVec 16) : Byte := ck.extractLsb' 0 8

/-- `Frame`: the eight bytes of a frame with its checksum (`00_scope.md` rule R8). -/
def mkFrame (o f p1 p2 : Byte) : Buf8 :=
  ⟨startMarker, o, f, p1, p2, highByte (cksum o f p1 p2), lowByte (cksum o f p1 p2), endMarker⟩

/-- The byte at offset `i`, 0 to 7; no rule reads an offset beyond 7. -/
def Buf8.get (f : Buf8) (i : Nat) : Byte :=
  if i = 0 then f.b0 else if i = 1 then f.b1 else if i = 2 then f.b2 else if i = 3 then f.b3
  else if i = 4 then f.b4 else if i = 5 then f.b5 else if i = 6 then f.b6 else if i = 7 then f.b7 else 0

/-- `BUF[i] <- b`; no rule writes an offset beyond 7, and such a write is dropped. -/
def Buf8.set (f : Buf8) (i : Nat) (b : Byte) : Buf8 :=
  if i = 0 then { f with b0 := b } else if i = 1 then { f with b1 := b }
  else if i = 2 then { f with b2 := b } else if i = 3 then { f with b3 := b }
  else if i = 4 then { f with b4 := b } else if i = 5 then { f with b5 := b }
  else if i = 6 then { f with b6 := b } else if i = 7 then { f with b7 := b } else f

/-! The 32 frame opcodes (`30_encoding.md` rule R64), kept in this one place. -/

/-- NEXT (rule R130). -/
abbrev Opcode.next : Byte := 0x01
/-- PREVIOUS (rule R131). -/
abbrev Opcode.previous : Byte := 0x02
/-- PLAY_TRACK_NUM (rule R132). -/
abbrev Opcode.playTrackNum : Byte := 0x03
/-- VOLUME_PLUS (rule R133). -/
abbrev Opcode.volumePlus : Byte := 0x04
/-- VOLUME_MINUS (rule R134). -/
abbrev Opcode.volumeMinus : Byte := 0x05
/-- VOLUME_SET (rule R135). -/
abbrev Opcode.volumeSet : Byte := 0x06
/-- SET_EQ (rule R136). -/
abbrev Opcode.setEq : Byte := 0x07
/-- REPEAT_TRACK (rule R137). -/
abbrev Opcode.repeatTrack : Byte := 0x08
/-- PLAY_SOURCE (rule R138). -/
abbrev Opcode.playSource : Byte := 0x09
/-- SLEEP (rule R139). -/
abbrev Opcode.sleep : Byte := 0x0A
/-- RESET (rule R140). -/
abbrev Opcode.reset : Byte := 0x0C
/-- PLAY (rule R141). -/
abbrev Opcode.play : Byte := 0x0D
/-- PAUSE (rule R142). -/
abbrev Opcode.pause : Byte := 0x0E
/-- FOLDER_AND_TRACK (rule R143). -/
abbrev Opcode.folderAndTrack : Byte := 0x0F
/-- CONTINUOUS (rule R144). -/
abbrev Opcode.continuous : Byte := 0x11
/-- STOP (rule R145). -/
abbrev Opcode.stop : Byte := 0x16
/-- RANDOM_TRACK (rule R146). -/
abbrev Opcode.randomTrack : Byte := 0x18
/-- SINGLE_PLAY (rule R147). -/
abbrev Opcode.singlePlay : Byte := 0x19
/-- SOURCE_INSERT (rule R171). -/
abbrev Opcode.sourceInsert : Byte := 0x3A
/-- SOURCE_REMOVED (rule R172). -/
abbrev Opcode.sourceRemoved : Byte := 0x3B
/-- USB_DONE (rule R173). -/
abbrev Opcode.usbDone : Byte := 0x3C
/-- USD_DONE (rule R174). -/
abbrev Opcode.usdDone : Byte := 0x3D
/-- STARTUP (rule R175). -/
abbrev Opcode.startup : Byte := 0x3F
/-- NAK (rule R168). -/
abbrev Opcode.nak : Byte := 0x40
/-- ACK (rule R167). -/
abbrev Opcode.ack : Byte := 0x41
/-- QUERY_VOLUME (rule R160). -/
abbrev Opcode.queryVolume : Byte := 0x43
/-- QUERY_EQ (rule R161). -/
abbrev Opcode.queryEq : Byte := 0x44
/-- QUERY_TRACKS_USB (rule R162). -/
abbrev Opcode.queryTracksUsb : Byte := 0x47
/-- QUERY_TRACKS_USD (rule R163). -/
abbrev Opcode.queryTracksUsd : Byte := 0x48
/-- QUERY_CUR_TRACK_USB (rule R164). -/
abbrev Opcode.queryCurTrackUsb : Byte := 0x4B
/-- QUERY_CUR_TRACK_USD (rule R165). -/
abbrev Opcode.queryCurTrackUsd : Byte := 0x4C
/-- QUERY_TRACKS_IN_FOLDER (rule R166). -/
abbrev Opcode.queryTracksInFolder : Byte := 0x4E

/-- `IsQuery(op)` (`00_scope.md` rule R8). -/
def isQuery (o : Byte) : Bool :=
  o == Opcode.queryVolume || o == Opcode.queryEq || o == Opcode.queryTracksUsb || o == Opcode.queryTracksUsd ||
    o == Opcode.queryCurTrackUsb || o == Opcode.queryCurTrackUsd || o == Opcode.queryTracksInFolder

/-- `IsNotif(op)` (`00_scope.md` rule R8). -/
def isNotif (o : Byte) : Bool :=
  o == Opcode.sourceInsert || o == Opcode.sourceRemoved || o == Opcode.usbDone || o == Opcode.usdDone ||
    o == Opcode.startup

end Sys2Proof
end

