-- ==== Sys2Proof/Syntax.lean ====
section
/-!
DEFINITION. Syntax.lean: the "instructions" of this hardware, one constructor per row of spec/opcode_table.json.

`00_scope.md` rule R2: they are the 32 frame opcodes of the wire protocol (format FRAME64, `30_encoding.md` rule
R64) and the seven block operations (format CMD8, `30_encoding.md` rule R68). A frame opcode carries the five
bytes its row leaves free; a block operation takes its operands from registers and carries nothing.
-/

namespace Sys2Proof

/-- The five free bytes of a FRAME64 row: feedback, para1, para2 and the two checksum bytes (`30_encoding.md`
rule R60, offsets 2 to 6). -/
structure Payload where
  fb : Byte
  p1 : Byte
  p2 : Byte
  ckh : Byte
  ckl : Byte
  deriving DecidableEq, Repr

/-- The 39 rows of spec/opcode_table.json: 32 frame opcodes, then seven block operations. -/
inductive Instr where
  /-- NEXT = 0x01 (control; rule R130). -/
  | next (p : Payload)
  /-- PREVIOUS = 0x02 (control; rule R131). -/
  | previous (p : Payload)
  /-- PLAY_TRACK_NUM = 0x03 (control; rule R132). -/
  | playTrackNum (p : Payload)
  /-- VOLUME_PLUS = 0x04 (control; rule R133). -/
  | volumePlus (p : Payload)
  /-- VOLUME_MINUS = 0x05 (control; rule R134). -/
  | volumeMinus (p : Payload)
  /-- VOLUME_SET = 0x06 (control; rule R135). -/
  | volumeSet (p : Payload)
  /-- SET_EQ = 0x07 (control; rule R136). -/
  | setEq (p : Payload)
  /-- REPEAT_TRACK = 0x08 (control; rule R137). -/
  | repeatTrack (p : Payload)
  /-- PLAY_SOURCE = 0x09 (control; rule R138). -/
  | playSource (p : Payload)
  /-- SLEEP = 0x0A (control; rule R139). -/
  | sleep (p : Payload)
  /-- RESET = 0x0C (control; rule R140). -/
  | reset (p : Payload)
  /-- PLAY = 0x0D (control; rule R141). -/
  | play (p : Payload)
  /-- PAUSE = 0x0E (control; rule R142). -/
  | pause (p : Payload)
  /-- FOLDER_AND_TRACK = 0x0F (control; rule R143). -/
  | folderAndTrack (p : Payload)
  /-- CONTINUOUS = 0x11 (control; rule R144). -/
  | continuous (p : Payload)
  /-- STOP = 0x16 (control; rule R145). -/
  | stop (p : Payload)
  /-- RANDOM_TRACK = 0x18 (control; rule R146). -/
  | randomTrack (p : Payload)
  /-- SINGLE_PLAY = 0x19 (control; rule R147). -/
  | singlePlay (p : Payload)
  /-- SOURCE_INSERT = 0x3A (notification; rule R171). -/
  | sourceInsert (p : Payload)
  /-- SOURCE_REMOVED = 0x3B (notification; rule R172). -/
  | sourceRemoved (p : Payload)
  /-- USB_DONE = 0x3C (notification; rule R173). -/
  | usbDone (p : Payload)
  /-- USD_DONE = 0x3D (notification; rule R174). -/
  | usdDone (p : Payload)
  /-- STARTUP = 0x3F (notification; rule R175). -/
  | startup (p : Payload)
  /-- NAK = 0x40 (reply; rule R168). -/
  | nak (p : Payload)
  /-- ACK = 0x41 (reply; rule R167). -/
  | ack (p : Payload)
  /-- QUERY_VOLUME = 0x43 (query; rule R160). -/
  | queryVolume (p : Payload)
  /-- QUERY_EQ = 0x44 (query; rule R161). -/
  | queryEq (p : Payload)
  /-- QUERY_TRACKS_USB = 0x47 (query; rule R162). -/
  | queryTracksUsb (p : Payload)
  /-- QUERY_TRACKS_USD = 0x48 (query; rule R163). -/
  | queryTracksUsd (p : Payload)
  /-- QUERY_CUR_TRACK_USB = 0x4B (query; rule R164). -/
  | queryCurTrackUsb (p : Payload)
  /-- QUERY_CUR_TRACK_USD = 0x4C (query; rule R165). -/
  | queryCurTrackUsd (p : Payload)
  /-- QUERY_TRACKS_IN_FOLDER = 0x4E (query; rule R166). -/
  | queryTracksInFolder (p : Payload)
  /-- ENC, command code 0x01 (block operation; rule R85). -/
  | enc
  /-- DEC, command code 0x02 (block operation; rule R86). -/
  | dec
  /-- TXF, command code 0x03 (block operation; rule R92). -/
  | txf
  /-- RXF, command code 0x04 (block operation; rule R97). -/
  | rxf
  /-- DRN, command code 0x05 (block operation; rule R113). -/
  | drn
  /-- XCHG, command code 0x06 (block operation; rule R115). -/
  | xchg
  /-- FLUSH, command code 0x07 (block operation; rule R98). -/
  | flush
  deriving DecidableEq, Repr

end Sys2Proof
end

