-- ==== Sys2Proof/Machine/Opcodes.lean ====
section
/-!
DEFINITION. Machine/Opcodes.lean: the opcode of each frame instruction (`30_encoding.md` rule R64).
-/

namespace Sys2Proof

/-- The frame opcode and free bytes of a FRAME64 row (`30_encoding.md` rule R64); `none` for a block operation. -/
def Instr.opcodeOf : Instr → Option (Byte × Payload)
  | .next p => some (Opcode.next, p)
  | .previous p => some (Opcode.previous, p)
  | .playTrackNum p => some (Opcode.playTrackNum, p)
  | .volumePlus p => some (Opcode.volumePlus, p)
  | .volumeMinus p => some (Opcode.volumeMinus, p)
  | .volumeSet p => some (Opcode.volumeSet, p)
  | .setEq p => some (Opcode.setEq, p)
  | .repeatTrack p => some (Opcode.repeatTrack, p)
  | .playSource p => some (Opcode.playSource, p)
  | .sleep p => some (Opcode.sleep, p)
  | .reset p => some (Opcode.reset, p)
  | .play p => some (Opcode.play, p)
  | .pause p => some (Opcode.pause, p)
  | .folderAndTrack p => some (Opcode.folderAndTrack, p)
  | .continuous p => some (Opcode.continuous, p)
  | .stop p => some (Opcode.stop, p)
  | .randomTrack p => some (Opcode.randomTrack, p)
  | .singlePlay p => some (Opcode.singlePlay, p)
  | .sourceInsert p => some (Opcode.sourceInsert, p)
  | .sourceRemoved p => some (Opcode.sourceRemoved, p)
  | .usbDone p => some (Opcode.usbDone, p)
  | .usdDone p => some (Opcode.usdDone, p)
  | .startup p => some (Opcode.startup, p)
  | .nak p => some (Opcode.nak, p)
  | .ack p => some (Opcode.ack, p)
  | .queryVolume p => some (Opcode.queryVolume, p)
  | .queryEq p => some (Opcode.queryEq, p)
  | .queryTracksUsb p => some (Opcode.queryTracksUsb, p)
  | .queryTracksUsd p => some (Opcode.queryTracksUsd, p)
  | .queryCurTrackUsb p => some (Opcode.queryCurTrackUsb, p)
  | .queryCurTrackUsd p => some (Opcode.queryCurTrackUsd, p)
  | .queryTracksInFolder p => some (Opcode.queryTracksInFolder, p)
  | .enc | .dec | .txf | .rxf | .drn | .xchg | .flush => none

end Sys2Proof
end

