-- ==== Sys2Proof/WellFormed.lean ====
section
/-!
DEFINITION. WellFormed.lean: which instructions are well formed.

Every 8-bit value is accepted in the feedback and parameter fields (`30_encoding.md` rule R66), so the only
condition a row of the table states on its fields is that the two checksum bytes are the checksum's
(spec/opcode_table.json, "h" and "l"). A frame that fails it can still be received, decoded and executed.
`wellFormed` takes the opcode from `opcodeOf`, the table of `30_encoding.md` rule R64. Log entry 22.
-/

namespace Sys2Proof

/-- The check on checksumHigh: it is `Cksum[15:8]` of the four payload bytes. -/
def checksumHighOk (o : Byte) (p : Payload) : Bool := p.ckh == highByte (cksum o p.fb p.p1 p.p2)

/-- The check on checksumLow: it is `Cksum[7:0]` of the four payload bytes. -/
def checksumLowOk (o : Byte) (p : Payload) : Bool := p.ckl == lowByte (cksum o p.fb p.p1 p.p2)

/-- A frame is well formed if it carries its own checksum; a block operation always is. -/
def Instr.wellFormed (i : Instr) : Bool :=
  match i.opcodeOf with
  | some (o, p) => checksumHighOk o p && checksumLowOk o p
  | none => true

end Sys2Proof
end

