-- ==== Sys2Proof/Decode.lean ====
section
/-!
DEFINITION. Decode.lean: from bytes to instructions and back.

There are two formats. CMD8 is the one byte a host writes to register CMD (`30_encoding.md` rule R68). FRAME64 is
the eight bytes of a frame, offset 0 first (`30_encoding.md` rules R60, R64); a row's mask covers the two markers
and the opcode, so the other five bytes are free. Decoding is total and refuses by name.
-/

namespace Sys2Proof

/-- Why bytes are no instruction of the table. -/
inductive DecodeError where
  /-- The command byte is none of 0x01 to 0x07 (`30_encoding.md` rule R68). -/
  | unknownCommand (c : Byte)
  /-- Offset 0 is not 0x7E (`30_encoding.md` rule R60). -/
  | badStart (b : Byte)
  /-- Offset 7 is not 0xEF (`30_encoding.md` rule R60). -/
  | badEnd (b : Byte)
  /-- The opcode byte is one of the 224 unlisted values (`30_encoding.md` rule R65). -/
  | unlistedOpcode (o : Byte)
  /-- Neither one byte nor eight. -/
  | badLength (n : Nat)
  deriving DecidableEq, Repr

/-- The FRAME64 rows (`30_encoding.md` rule R64): opcode and constructor. -/
def frameRows : List (Byte × (Payload → Instr)) :=
  [(Opcode.next, .next), (Opcode.previous, .previous),
   (Opcode.playTrackNum, .playTrackNum), (Opcode.volumePlus, .volumePlus),
   (Opcode.volumeMinus, .volumeMinus), (Opcode.volumeSet, .volumeSet),
   (Opcode.setEq, .setEq), (Opcode.repeatTrack, .repeatTrack),
   (Opcode.playSource, .playSource), (Opcode.sleep, .sleep),
   (Opcode.reset, .reset), (Opcode.play, .play),
   (Opcode.pause, .pause), (Opcode.folderAndTrack, .folderAndTrack),
   (Opcode.continuous, .continuous), (Opcode.stop, .stop),
   (Opcode.randomTrack, .randomTrack), (Opcode.singlePlay, .singlePlay)] ++
  [(Opcode.sourceInsert, .sourceInsert), (Opcode.sourceRemoved, .sourceRemoved),
   (Opcode.usbDone, .usbDone), (Opcode.usdDone, .usdDone),
   (Opcode.startup, .startup), (Opcode.nak, .nak),
   (Opcode.ack, .ack), (Opcode.queryVolume, .queryVolume),
   (Opcode.queryEq, .queryEq), (Opcode.queryTracksUsb, .queryTracksUsb),
   (Opcode.queryTracksUsd, .queryTracksUsd), (Opcode.queryCurTrackUsb, .queryCurTrackUsb),
   (Opcode.queryCurTrackUsd, .queryCurTrackUsd), (Opcode.queryTracksInFolder, .queryTracksInFolder)]

/-- The CMD8 rows (`30_encoding.md` rule R68): command code and constructor. -/
def commandRows : List (Byte × Instr) :=
  [(0x01, .enc), (0x02, .dec), (0x03, .txf), (0x04, .rxf), (0x05, .drn), (0x06, .xchg), (0x07, .flush)]

/-- The instruction a command byte selects (`10_state.md` rule R21). -/
def decodeCommand (c : Byte) : Except DecodeError Instr :=
  match commandRows.find? (fun r => r.1 == c) with
  | some r => .ok r.2
  | none => .error (.unknownCommand c)

/-- The instruction eight bytes carry, opcode at offset 1 (`30_encoding.md` rules R60, R61, R64). -/
def decodeFrame (f : Buf8) : Except DecodeError Instr :=
  if f.b0 ≠ startMarker then .error (.badStart f.b0)
  else if f.b7 ≠ endMarker then .error (.badEnd f.b7)
  else
    match frameRows.find? (fun r => r.1 == f.b1) with
    | some r => .ok (r.2 ⟨f.b2, f.b3, f.b4, f.b5, f.b6⟩)
    | none => .error (.unlistedOpcode f.b1)

/-- The decoder: one byte is a command, eight bytes are a frame. -/
def decode : List Byte → Except DecodeError Instr
  | [c] => decodeCommand c
  | [b0, b1, b2, b3, b4, b5, b6, b7] => decodeFrame ⟨b0, b1, b2, b3, b4, b5, b6, b7⟩
  | bs => .error (.badLength bs.length)

/-- The eight bytes of a frame with opcode `o` and free bytes `p` (`30_encoding.md` rule R60). -/
def frameBytes (o : Byte) (p : Payload) : Buf8 :=
  ⟨startMarker, o, p.fb, p.p1, p.p2, p.ckh, p.ckl, endMarker⟩

/-- The command code of a block operation (`30_encoding.md` rule R68). -/
def commandCode : Instr → Byte
  | .enc => 0x01
  | .dec => 0x02
  | .txf => 0x03
  | .rxf => 0x04
  | .drn => 0x05
  | .xchg => 0x06
  | .flush => 0x07
  | .next _ | .previous _ | .playTrackNum _ | .volumePlus _
  | .volumeMinus _ | .volumeSet _ | .setEq _ | .repeatTrack _
  | .playSource _ | .sleep _ | .reset _ | .play _
  | .pause _ | .folderAndTrack _ | .continuous _ | .stop _
  | .randomTrack _ | .singlePlay _ | .sourceInsert _ | .sourceRemoved _
  | .usbDone _ | .usdDone _ | .startup _ | .nak _
  | .ack _ | .queryVolume _ | .queryEq _ | .queryTracksUsb _
  | .queryTracksUsd _ | .queryCurTrackUsb _ | .queryCurTrackUsd _ | .queryTracksInFolder _ => 0x00

/-- The encoder: the bytes of an instruction, the first at offset 0. -/
def encode (i : Instr) : List Byte :=
  match i.opcodeOf with
  | some (o, p) => (frameBytes o p).toList
  | none => [commandCode i]

/-- Byte 0 of a frame is bits 63:56 of its 64-bit number (`00_scope.md` rule R7). -/
def frameOfWord (w : Nat) : Buf8 :=
  ⟨BitVec.ofNat 8 (w / 2 ^ 56), BitVec.ofNat 8 (w / 2 ^ 48), BitVec.ofNat 8 (w / 2 ^ 40), BitVec.ofNat 8 (w / 2 ^ 32),
   BitVec.ofNat 8 (w / 2 ^ 24), BitVec.ofNat 8 (w / 2 ^ 16), BitVec.ofNat 8 (w / 2 ^ 8), BitVec.ofNat 8 w⟩

/-- The instruction read from a word numbered as spec/opcode_table.json numbers it: an 8-bit word is a command
byte; a 64-bit word is a frame with byte 0 in bits 63:56 (`00_scope.md` rule R7). -/
def decodeTableWord (nbits w : Nat) : Option Instr :=
  if nbits = 8 then (decode [BitVec.ofNat 8 w]).toOption
  else if nbits = 64 then (decode (frameOfWord w).toList).toOption
  else none

end Sys2Proof
end

