-- ==== Sys2Proof/Config.lean ====
section
/-!
DEFINITION. Config.lean: the parameters of the block (`00_scope.md` rule R5; `10_state.md` rule R32).

A parameter the spec calls OPEN is an opaque constant with no body: nothing in Lean can evaluate it, so a claim
that mentions it holds for every value. Where the spec bounds an OPEN parameter, the model's value is the raw
constant brought into the bound. Log entry 4.
-/

namespace Sys2Proof

/-- The three play modes among which the facade's `setMode` dispatches (`46_facade.md` rule R208). -/
inductive PlayMode where
  | singlePlay
  | continuous
  | random
  deriving DecidableEq, Repr

/-- The four STARTUP sub-state bytes (`10_state.md` rule R28). -/
structure StartupCodes where
  none : Byte
  usb : Byte
  card : Byte
  both : Byte
  deriving DecidableEq, Repr, Inhabited

/-- "The four STARTUP parameters must be pairwise distinct" (`10_state.md` rule R28). -/
def StartupCodes.distinct (c : StartupCodes) : Bool :=
  c.none != c.usb && c.none != c.card && c.none != c.both && c.usb != c.card && c.usb != c.both && c.card != c.both

/-- The spec's default values 0, 1, 2, 3 (`00_scope.md` rule R5). -/
def StartupCodes.default0123 : StartupCodes := ⟨0x00, 0x01, 0x02, 0x03⟩

/-- One step of one agent (`10_state.md` rule R11). -/
inductive Turn where
  /-- HOST: `RegRead(n)`. -/
  | hostRead (n : Nat)
  /-- HOST: `RegWrite(n, v)`. -/
  | hostWrite (n : Nat) (v : Byte)
  /-- SEQ: the next micro-step of the operation in progress. -/
  | seq
  /-- LINK-RX: `Arrive(b)`, byte level. -/
  | arrive (b : Byte)
  /-- LINK-RX and HOST in the same step: `Arrive(b)` and `RegWrite(ERR, v)` (`10_state.md` rule R24), byte level. -/
  | arriveAndErrWrite (b v : Byte)
  /-- TIMER: `Timeout`, byte level. -/
  | timeout
  /-- The reset input `rst` (`70_reset_and_hazards.md` rule R250), sampled as asserted: one turn, at once and at no
  clock, an assertion that lasts being several such turns. How `rst` is synchronised and how long it lasts the spec
  leaves to the implementer (`10_state.md` rule R31); this is the model's choice. Log entry 28. -/
  | rst
  /-- One clock of the line level, with the synchronised level of the RX pin. -/
  | clk (rx : Bool)
  deriving DecidableEq, Repr, Inhabited

/-- OPEN: the receive queue's capacity before the bound "at least 8". -/
opaque Config.rxqDepthRaw : Nat

/-- RXQ_DEPTH: OPEN, at least 8 (`00_scope.md` rule R5). -/
def Config.rxqDepth : Nat := max 8 Config.rxqDepthRaw

/-- OPEN: the STARTUP sub-state bytes before the bound "pairwise distinct". -/
opaque Config.startupRaw : StartupCodes

/-- STARTUP_NONE, STARTUP_USB, STARTUP_CARD, STARTUP_BOTH: OPEN, pairwise distinct (`00_scope.md` rule R5;
`10_state.md` rule R28). -/
def Config.startup : StartupCodes :=
  if Config.startupRaw.distinct then Config.startupRaw else StartupCodes.default0123

/-- CLK_HZ: OPEN; only the line level uses it (`00_scope.md` rule R5). -/
opaque Config.clkHz : Nat

/-- OPEN: the read timeout in milliseconds before the bound "greater than 0". -/
opaque Config.rxTimeoutRaw : Nat

/-- RX_TIMEOUT in milliseconds: OPEN, finite, greater than 0; only the line level uses it (`00_scope.md` rule R5). -/
def Config.rxTimeoutMs : Nat := max 1 Config.rxTimeoutRaw

/-- REG_BASE: OPEN; where the platform maps the register file (`00_scope.md` rule R5). -/
opaque Config.regBase : Nat

/-- FACADE_FB: OPEN; the feedback byte of the facade's pseudo-operations (`46_facade.md` rule R191). -/
opaque Config.facadeFb : Byte

/-- Which play mode each argument of `setMode` selects: not in the source, so open; `none` for an argument that
selects none of the three (`46_facade.md` rule R208). -/
opaque Config.playModeOf : Byte → Option PlayMode

/-- The endless sequence of turns of which nothing is known: a claim that mentions it holds for every one (`10_state.md`
rule R11: "the order between agents is not fixed"). Log entry 1. -/
opaque Config.laterTurn : Nat → Turn

/-- FEEDBACK (`00_scope.md` rule R5). -/
def Config.feedback : Byte := 0x01

/-- NO_FEEDBACK (`00_scope.md` rule R5). -/
def Config.noFeedback : Byte := 0x00

/-- BAUD, fixed (`00_scope.md` rule R5). -/
def Config.baud : Nat := 9600

/-- VOL_MAX, fixed (`00_scope.md` rule R5). -/
def Config.volMax : Byte := 30

/-- SRC_USB, fixed (`00_scope.md` rule R5). -/
def Config.srcUsb : Byte := 0x01

/-- SRC_CARD, fixed (`00_scope.md` rule R5). -/
def Config.srcCard : Byte := 0x02

end Sys2Proof
end

