-- ==== Sys2Proof/Machine/State.lean ====
section
/-!
DEFINITION. Machine/State.lean: everything the spec gives the block, as plain data, and its reset values.

The first part of `State` is the block at byte level (`10_state.md` rules R13 to R28). `line` is the line-level
state of `10_state.md` rule R29 with the pins of `42_uart.md` rule R105. The last three fields are the model's own:
which of the spec's two levels the run is told at, the turns the agents are about to take, and what comes after them.
-/

namespace Sys2Proof.Machine

/-- PHASE: which part of the operation in progress is running (`10_state.md` rule R14). -/
inductive Phase where
  | idle
  | drainTest
  | drainRx
  | tx
  | rx
  | flushWait
  deriving DecidableEq, Repr

/-- RKIND: the four cases of the Exchange Result (`10_state.md` rule R17). -/
inductive RKind where
  /-- 0: "boolean ack-false/no-response". -/
  | noReply
  /-- 1: "boolean ack-true". -/
  | ack
  /-- 2: "8-bit query value". -/
  | value
  /-- 3: "8-bit NAK error code". -/
  | nakCode
  deriving DecidableEq, Repr

/-- The class of an event record (`10_state.md` rule R28); codes 14 and 15 are reserved and never emitted. -/
inductive EvClass where
  | other
  | insertUsb
  | insertCard
  | insertUnk
  | removeUsb
  | removeCard
  | removeUnk
  | usbDone
  | cardDone
  | startupNone
  | startupUsb
  | startupCard
  | startupBoth
  | startupUnk
  deriving DecidableEq, Repr

/-- One event record `(class, opc, p2, dstat)` (`10_state.md` rule R28). -/
structure Event where
  cls : EvClass
  opc : Byte
  p2 : Byte
  dstat : BitVec 5
  deriving DecidableEq, Repr

/-- What the line-level receiver is doing (`42_uart.md` rule R102). -/
inductive RxFsm where
  /-- Looking for a falling edge. -/
  | hunting
  /-- An edge was seen; the start bit is confirmed half a bit time later. -/
  | start
  /-- Sampling the eight data bits. -/
  | data
  /-- Sampling the stop bit. -/
  | stop
  /-- A bad stop bit was seen; waiting for the line to return high. -/
  | recover
  deriving DecidableEq, Repr

/-- The line-level state (`10_state.md` rule R29; `42_uart.md` rules R101 to R103, R105). -/
structure Line where
  /-- The transmit holding byte; `none` is "holding register empty". -/
  txHold : Option Byte
  /-- The transmit shift register: start bit, eight data bits, stop bit, the bit on the pin in bit 0. -/
  txShift : BitVec 10
  /-- The transmitter's bit counter: bits of the character still to be sent, the one on the pin included; 0 is idle. -/
  txBits : Nat
  /-- The baud-rate divider: clocks the bit on the pin has already lasted. -/
  txDiv : Nat
  /-- The receiver's state. -/
  rxFsm : RxFsm
  /-- The receive shift register. -/
  rxShift : Byte
  /-- The receiver's bit counter: data bits already sampled. -/
  rxBits : Nat
  /-- The receiver's sample counter: clocks since the last sample point (or edge). -/
  rxCount : Nat
  /-- The synchronised RX level one clock ago, for the edge detector. -/
  rxPrev : Bool
  /-- The read-timeout counter: clocks the sequencer has waited with `RXQ` empty. -/
  toCount : Nat
  /-- The event port's strobe and record: `some e` is `evt_valid` with `e` on the four data pins. -/
  evt : Option Event
  deriving DecidableEq, Repr

/-- The line-level counters idle, both pins at the mark level (`10_state.md` rule R31). -/
def Line.idle : Line :=
  { txHold := none, txShift := 0x3FF, txBits := 0, txDiv := 0, rxFsm := .hunting, rxShift := 0, rxBits := 0,
    rxCount := 0, rxPrev := true, toCount := 0, evt := none }

/-- The two levels at which the spec tells a run (`10_state.md` rule R10; `42_uart.md` rule R104). -/
inductive Level where
  /-- One whole byte per step; the line-level state stays idle. -/
  | byteLevel
  /-- Bytes and the timeout come from the pins and the clock (`42_uart.md` rules R100 to R103). -/
  | lineLevel
  deriving DecidableEq, Repr

/-- What comes from outside once the agenda is used up. Log entry 1. -/
inductive Later where
  /-- Nothing more: the block runs on by itself. -/
  | quiet
  /-- The same turns for ever, this one first and then these: arrivals without end among them (`43_exchange.md` rule
  R121; `70_reset_and_hazards.md` rule R258). -/
  | again (t : Turn) (ts : List Turn)
  /-- An endless sequence of which nothing is known, from its `n`-th turn on. -/
  | free (n : Nat)
  deriving DecidableEq, Repr

/-- Everything the spec gives the block, and the model's own three fields. -/
structure State where
  /-- OP: 0 when idle, else the command code of the operation in progress (`10_state.md` rule R14). -/
  op : BitVec 4
  /-- PHASE (`10_state.md` rule R14). -/
  phase : Phase
  /-- IDX: `TXBUF` bytes already handed to the transmitter in the current TX phase (`10_state.md` rule R14). -/
  idx : BitVec 4
  /-- ARG_OPC (`10_state.md` rule R15). -/
  argOpc : Byte
  /-- ARG_FB (`10_state.md` rule R15). -/
  argFb : Byte
  /-- ARG_P1 (`10_state.md` rule R15). -/
  argP1 : Byte
  /-- ARG_P2 (`10_state.md` rule R15). -/
  argP2 : Byte
  /-- CTRL bit 0, STRICT; the other bits do not exist (`10_state.md` rule R22). -/
  strict : Bool
  /-- STATUS bit 1, TMO; bit 0, BUSY, is a view of PHASE (`10_state.md` rule R23). -/
  tmo : Bool
  /-- ERR: bit 0 OVERRUN, bit 1 FERR, bit 2 CMDERR (`10_state.md` rule R24). -/
  err : BitVec 3
  /-- RESULT (`10_state.md` rule R17). -/
  result : Byte
  /-- RKIND (`10_state.md` rule R17). -/
  rkind : RKind
  /-- RXLEN (`10_state.md` rule R19). -/
  rxlen : BitVec 4
  /-- DSTAT: bit 0 START_OK, 1 END_OK, 2 LEN_OK, 3 CK_OK, 4 VALID (`10_state.md` rule R25). -/
  dstat : BitVec 5
  /-- TXBUF (`10_state.md` rule R18). -/
  txbuf : Buf8
  /-- RXBUF (`10_state.md` rule R19). -/
  rxbuf : Buf8
  /-- DEC_OPC (`10_state.md` rule R16). -/
  decOpc : Byte
  /-- DEC_FB (`10_state.md` rule R16). -/
  decFb : Byte
  /-- DEC_P1 (`10_state.md` rule R16). -/
  decP1 : Byte
  /-- DEC_P2 (`10_state.md` rule R16). -/
  decP2 : Byte
  /-- DEC_CKH (`10_state.md` rule R16). -/
  decCkh : Byte
  /-- DEC_CKL (`10_state.md` rule R16). -/
  decCkl : Byte
  /-- RXQ, the oldest byte first (`10_state.md` rule R27). -/
  rxq : List Byte
  /-- TXWIRE, the oldest byte first (`10_state.md` rule R13). -/
  txwire : List Byte
  /-- EVLOG, the oldest record first (`10_state.md` rule R13). -/
  evlog : List Event
  /-- The host port's 8-bit read data: what the last `RegRead` returned (`42_uart.md` rule R105). -/
  hostData : Byte
  /-- The line-level state and pins (`10_state.md` rule R29). -/
  line : Line
  /-- The model's own: at which level the run is told. Log entry 7. -/
  level : Level
  /-- The model's own: the turns the agents take next, the first first. Log entry 1. -/
  agenda : List Turn
  /-- The model's own: what comes from outside once the agenda is used up. Log entry 1. -/
  later : Later
  deriving DecidableEq, Repr

/-- Why a step stops with a fault. There is no reason: "the block has no faults" (`93_implementation_defined.md`
part A; `60_exceptions.md` rule R226), so the type has no constructor and no step faults. Safe. -/
inductive Fault where
  deriving DecidableEq, Repr

/-- Why a step has no meaning. -/
inductive Refusal where
  /-- Raised by an arm of `exec` whose instruction has no meaning yet; no arm raises it. Safe: nothing can be
  proved of the instruction. -/
  | notModelled (mnemonic : String)
  /-- Raised by a `RegRead` or `RegWrite` at a register number above 0x3F, which is not part of the block
  (`93_implementation_defined.md` U16). Safe: nothing can be proved of what the platform does there. -/
  | registerOutsideMap (n : Nat)
  deriving DecidableEq, Repr

/-- The outcome of a step of this machine. -/
abbrev Out := Host.Outcome State Fault Refusal

/-- The block right after reset (`10_state.md` rule R31). -/
def State.reset : State :=
  { op := 0, phase := .idle, idx := 0, argOpc := 0, argFb := 0, argP1 := 0, argP2 := 0, strict := false, tmo := false,
    err := 0, result := 0, rkind := .noReply, rxlen := 0, dstat := 0, txbuf := Buf8.zero, rxbuf := Buf8.zero,
    decOpc := 0, decFb := 0, decP1 := 0, decP2 := 0, decCkh := 0, decCkl := 0, rxq := [], txwire := [], evlog := [],
    hostData := 0, line := Line.idle, level := .byteLevel, agenda := [], later := .quiet }

end Sys2Proof.Machine
end

