-- ==== Sys2Proof/Machine/Flags.lean ====
section
/-!
DEFINITION. Machine/Flags.lean: the status the block computes: STATUS, ERR, RXCNT, RKIND and class codes, DSTAT.
-/

namespace Sys2Proof.Machine

/-- `STATUS.BUSY = (PHASE != IDLE)` (`10_state.md` rules R14, R23). -/
def State.busy (s : State) : Bool := s.phase != .idle

/-- STATUS as the host reads it: bit 0 BUSY, bit 1 TMO, bits 7:2 zero (`10_state.md` rule R23). -/
def State.status (s : State) : Byte := (if s.busy then 0x01 else 0x00) ||| (if s.tmo then 0x02 else 0x00)

/-- ERR bit 0, OVERRUN (`10_state.md` rule R24). -/
def errOverrun : BitVec 3 := 0b001

/-- ERR bit 1, FERR (`10_state.md` rule R24). -/
def errFerr : BitVec 3 := 0b010

/-- ERR bit 2, CMDERR (`10_state.md` rule R24). -/
def errCmderr : BitVec 3 := 0b100

/-- One step's effect on ERR: the bits of `clear` are cleared, then those of `set` set, so a flag that the same
step sets and clears ends set (`10_state.md` rule R24; `60_exceptions.md` rule R229 (e)). -/
def errAfter (err set clear : BitVec 3) : BitVec 3 := (err &&& ~~~clear) ||| set

/-- ERR after a step that sets the flags `f` and clears none. -/
def State.raise (f : BitVec 3) (s : State) : State := { s with err := errAfter s.err f 0 }

/-- RXCNT: `min(QCount(), 255)` (`10_state.md` rule R26). -/
def State.rxcnt (s : State) : Byte := BitVec.ofNat 8 (min s.rxq.length 255)

/-- The two-bit code of RKIND (`10_state.md` rule R17). -/
def RKind.code : RKind → BitVec 2
  | .noReply => 0
  | .ack => 1
  | .value => 2
  | .nakCode => 3

/-- The four-bit class code of an event record (`10_state.md` rule R28). -/
def EvClass.code : EvClass → BitVec 4
  | .other => 0
  | .insertUsb => 1
  | .insertCard => 2
  | .insertUnk => 3
  | .removeUsb => 4
  | .removeCard => 5
  | .removeUnk => 6
  | .usbDone => 7
  | .cardDone => 8
  | .startupNone => 9
  | .startupUsb => 10
  | .startupCard => 11
  | .startupBoth => 12
  | .startupUnk => 13

/-- START_OK (`10_state.md` rule R25). -/
def startOk (f : Buf8) : Bool := f.b0 == startMarker

/-- END_OK (`10_state.md` rule R25). -/
def endOk (f : Buf8) : Bool := f.b7 == endMarker

/-- LEN_OK (`10_state.md` rule R25). -/
def lenOk (n : BitVec 4) : Bool := n == 8

/-- CK_OK (`10_state.md` rule R25). -/
def ckOk (f : Buf8) : Bool := f.b5 ++ f.b6 == cksum f.b1 f.b2 f.b3 f.b4

/-- VALID (`10_state.md` rule R25). -/
def frameValid (f : Buf8) (n : BitVec 4) : Bool := startOk f && endOk f && lenOk n && ckOk f

/-- DSTAT of a buffer and a length: `valid ++ ck_ok ++ len_ok ++ end_ok ++ start_ok`, bit 4 to bit 0
(`41_codec.md` rule R84). -/
def dstatOf (f : Buf8) (n : BitVec 4) : BitVec 5 :=
  BitVec.ofBool (frameValid f n) ++ BitVec.ofBool (ckOk f) ++ BitVec.ofBool (lenOk n) ++ BitVec.ofBool (endOk f) ++
    BitVec.ofBool (startOk f)

/-- `DSTAT.VALID`, bit 4 (`10_state.md` rule R25). -/
def State.valid (s : State) : Bool := s.dstat.getLsbD 4

/-- A frame is usable in compat mode always, in strict mode only if valid (`10_state.md` rule R22;
`43_exchange.md` rules R112, R116). -/
def State.usable (s : State) : Bool := !s.strict || s.valid

end Sys2Proof.Machine
end

