-- ==== Sys2Proof/Machine/Operands.lean ====
section
/-!
DEFINITION. Machine/Operands.lean: the register file, the only operands the host can name (`10_state.md` rules R20,
R30; `20_memory.md` rules R41, R45).
-/

namespace Sys2Proof.Machine

/-- What a register number 0x00 to 0x3F names (`10_state.md` rule R20). -/
inductive Reg where
  | cmd
  | argOpc
  | argFb
  | argP1
  | argP2
  | ctrl
  | status
  | err
  | result
  | rkind
  | rxcnt
  | rxlen
  | dstat
  | reserved
  | txbuf (i : Nat)
  | rxbuf (i : Nat)
  | decOpc
  | decFb
  | decP1
  | decP2
  | decCkh
  | decCkl
  deriving DecidableEq, Repr

/-- How many registers the map has: 0x00 to 0x3F (`20_memory.md` rule R41). -/
def regCount : Nat := 0x40

/-- The named registers of the map, in the order of their numbers, 0x00 to 0x25 (`10_state.md` rule R20). -/
def regMap : List Reg :=
  [.cmd, .argOpc, .argFb, .argP1, .argP2, .ctrl, .status, .err, .result, .rkind, .rxcnt, .rxlen, .dstat,
   .reserved, .reserved, .reserved] ++
  [.txbuf 0, .txbuf 1, .txbuf 2, .txbuf 3, .txbuf 4, .txbuf 5, .txbuf 6, .txbuf 7] ++
  [.rxbuf 0, .rxbuf 1, .rxbuf 2, .rxbuf 3, .rxbuf 4, .rxbuf 5, .rxbuf 6, .rxbuf 7] ++
  [.decOpc, .decFb, .decP1, .decP2, .decCkh, .decCkl]

/-- The register a number names; 0x26 to 0x3F are reserved (`10_state.md` rule R20). -/
def regAt (n : Nat) : Reg := regMap[n]?.getD .reserved

/-- The platform's address of a register (`00_scope.md` rule R5, REG_BASE). -/
def busAddress (n : Nat) : Nat := Config.regBase + n

/-- The value a register reads as; a narrower register reads with zeros above, a write-only or reserved one reads
0x00, and no read has a side effect (`10_state.md` rules R20 to R26, R30; `20_memory.md` rule R47). -/
def State.readReg (s : State) : Reg → Byte
  | .cmd => 0x00
  | .argOpc => s.argOpc
  | .argFb => s.argFb
  | .argP1 => s.argP1
  | .argP2 => s.argP2
  | .ctrl => if s.strict then 0x01 else 0x00
  | .status => s.status
  | .err => s.err.setWidth 8
  | .result => s.result
  | .rkind => s.rkind.code.setWidth 8
  | .rxcnt => s.rxcnt
  | .rxlen => s.rxlen.setWidth 8
  | .dstat => s.dstat.setWidth 8
  | .reserved => 0x00
  | .txbuf i => s.txbuf.get i
  | .rxbuf i => s.rxbuf.get i
  | .decOpc => s.decOpc
  | .decFb => s.decFb
  | .decP1 => s.decP1
  | .decP2 => s.decP2
  | .decCkh => s.decCkh
  | .decCkl => s.decCkl

/-- A write to ERR clears the flags whose bits are 1, at any time (`10_state.md` rule R24). -/
def State.writeErr (v : Byte) (s : State) : State := { s with err := errAfter s.err 0 (v.setWidth 3) }

/-- A write to a register other than CMD and ERR while the block is idle: a writable register takes the value
(CTRL bit 0 only, RXLEN bits 3:0 only), any other write is ignored without a flag (`10_state.md` rule R30). -/
def State.writeIdle (r : Reg) (v : Byte) (s : State) : State :=
  match r with
  | .argOpc => { s with argOpc := v }
  | .argFb => { s with argFb := v }
  | .argP1 => { s with argP1 := v }
  | .argP2 => { s with argP2 := v }
  | .ctrl => { s with strict := v.getLsbD 0 }
  | .rxlen => { s with rxlen := v.setWidth 4 }
  | .rxbuf i => { s with rxbuf := s.rxbuf.set i v }
  | _ => s

end Sys2Proof.Machine
end

