-- ==== Sys2Proof/Machine/Ops.lean ====
section
/-!
DEFINITION. Machine/Ops.lean: the steps the operations are built from, each written once.

The encode, decode, classify and interpret steps (`41_codec.md` rules R83, R84; `43_exchange.md` rules R112,
R116), the frame read (`42_uart.md` rules R95, R96), `WireTx` and the TX phase (`42_uart.md` rules R90, R91), the
issue steps, `Arrive` (`42_uart.md` rule R93), and what happens where the block meets a whole frame. The block has
no exceptions (`60_exceptions.md` rules R226, R230), so none is taken here.
-/

namespace Sys2Proof.Machine

/-! OP holds the command code of the multi-step operation in progress (`10_state.md` rule R14). -/

def opTxf : BitVec 4 := 3
def opRxf : BitVec 4 := 4
def opDrn : BitVec 4 := 5
def opXchg : BitVec 4 := 6
def opFlush : BitVec 4 := 7

/-- "every operation ends with `PHASE <- IDLE; OP <- 0`" (`10_state.md` rule R14). -/
def toIdle (s : State) : State := { s with phase := .idle, op := 0 }

/-- The encode step: `TXBUF` becomes the request frame (`41_codec.md` rule R83). -/
def encodeStep (o f p1 p2 : Byte) (s : State) : State := { s with txbuf := mkFrame o f p1 p2 }

/-- The decode step: six fields by fixed offset, and DSTAT, whatever RXLEN is (`41_codec.md` rule R84). -/
def decodeStep (s : State) : State :=
  { s with
    decOpc := s.rxbuf.b1, decFb := s.rxbuf.b2, decP1 := s.rxbuf.b3, decP2 := s.rxbuf.b4, decCkh := s.rxbuf.b5,
    decCkl := s.rxbuf.b6, dstat := dstatOf s.rxbuf s.rxlen }

/-- `ReadFrameBegin` (`42_uart.md` rule R95). -/
def readFrameBegin (s : State) : State := { s with rxbuf := Buf8.zero, rxlen := 0, tmo := false }

/-- The event port's strobe, which only the line level has (`10_state.md` rule R28). Log entry 20. -/
def strobe (lv : Level) (e : Event) (l : Line) : Line :=
  match lv with
  | .byteLevel => l
  | .lineLevel => { l with evt := some e }

/-- The record the classify step emits for class `c` (`43_exchange.md` rule R112). -/
def State.eventOf (s : State) (c : EvClass) : Event := ⟨c, s.decOpc, s.decP2, s.dstat⟩

/-- `Emit(e)`: the record is appended to `EVLOG` (`10_state.md` rules R13, R28). -/
def emit (e : Event) (s : State) : State := { s with evlog := s.evlog ++ [e], line := strobe s.level e s.line }

/-- The class of a media-insert frame (`43_exchange.md` rule R112). -/
def insertClass (p2 : Byte) : EvClass :=
  if p2 = Config.srcUsb then .insertUsb else if p2 = Config.srcCard then .insertCard else .insertUnk

/-- The class of a media-removed frame (`43_exchange.md` rule R112). -/
def removeClass (p2 : Byte) : EvClass :=
  if p2 = Config.srcUsb then .removeUsb else if p2 = Config.srcCard then .removeCard else .removeUnk

/-- The class of a start-up report under the sub-state bytes `c` (`43_exchange.md` rule R112). -/
def startupClass (c : StartupCodes) (p2 : Byte) : EvClass :=
  if p2 = c.none then .startupNone else if p2 = c.usb then .startupUsb else if p2 = c.card then .startupCard
  else if p2 = c.both then .startupBoth else .startupUnk

/-- The class of a usable frame, by its opcode (`43_exchange.md` rule R112). -/
def eventClass (c : StartupCodes) (o p2 : Byte) : EvClass :=
  if o = Opcode.sourceInsert then insertClass p2
  else if o = Opcode.sourceRemoved then removeClass p2
  else if o = Opcode.usbDone then .usbDone
  else if o = Opcode.usdDone then .cardDone
  else if o = Opcode.startup then startupClass c p2
  else .other

/-- The arms of the interpret step (`43_exchange.md` rule R116). -/
inductive ReplyArm where
  /-- A query opcode: the reply's para2 is the value. -/
  | value
  /-- NAK: the reply's para2 is the error code. -/
  | nakCode
  /-- ACK: logical true. -/
  | ack
  /-- Anything else: logical false. -/
  | falsy
  deriving DecidableEq, Repr

/-- The arm an opcode selects (`43_exchange.md` rule R116). -/
def replyArm (o : Byte) : ReplyArm :=
  if isQuery o then .value else if o = Opcode.nak then .nakCode else if o = Opcode.ack then .ack else .falsy

/-- RESULT after an arm, the reply's para2 being `p2` (`43_exchange.md` rule R116). -/
def ReplyArm.result (a : ReplyArm) (p2 : Byte) : Byte :=
  match a with
  | .value => p2
  | .nakCode => p2
  | .ack => 0x01
  | .falsy => 0x00

/-- RKIND after an arm (`43_exchange.md` rule R116). -/
def ReplyArm.kind : ReplyArm → RKind
  | .value => .value
  | .nakCode => .nakCode
  | .ack => .ack
  | .falsy => .noReply

/-- The arm taken: a frame that is not usable takes the unrecognised one (`43_exchange.md` rule R116). -/
def State.armTaken (s : State) (a : ReplyArm) : ReplyArm := if s.usable then a else .falsy

/-- The class emitted: a frame that is not usable is EV_OTHER (`43_exchange.md` rule R112). -/
def State.classEmitted (s : State) (c : EvClass) : EvClass := if s.usable then c else .other

/-- The interpret step for a reply whose arm, if it is usable, is `a` (`43_exchange.md` rule R116). -/
def interpretAs (a : ReplyArm) (s : State) : State :=
  { s with result := (s.armTaken a).result s.decP2, rkind := (s.armTaken a).kind }

/-- The interpret step (`43_exchange.md` rule R116). -/
def interpret (s : State) : State := interpretAs (replyArm s.decOpc) s

/-- The classify step for a frame whose class, if it is usable, is `c` (`43_exchange.md` rule R112). -/
def classifyAs (c : EvClass) (s : State) : State := emit (s.eventOf (s.classEmitted c)) s

/-- The classify step (`43_exchange.md` rule R112). -/
def classify (s : State) : State := classifyAs (eventClass Config.startup s.decOpc s.decP2) s

/-- What the step that ends a frame read also does: in the drain phase Decode, Classify and back to DRAIN_TEST; in
XCHG's reply read Decode, Interpret and IDLE; in RXF IDLE only (`43_exchange.md` rules R111, R115, R120;
`42_uart.md` rule R97). `a` and `c` are the arm and the class of the frame if it is usable. -/
def endFrameRead (a : ReplyArm) (c : EvClass) (s : State) : State :=
  match s.phase with
  | .drainRx => { classifyAs c (decodeStep s) with phase := .drainTest }
  | .rx => if s.op = opXchg then toIdle (interpretAs a (decodeStep s)) else toIdle s
  | _ => s

/-- Entry into the TX phase (`42_uart.md` rule R91). -/
def enterTx (s : State) : State := { s with phase := .tx, idx := 0 }

/-- XCHG's encode point: the DrainTest that finds the queue empty (`43_exchange.md` rule R115). -/
def State.atEncodePoint (s : State) : Bool := s.phase == .drainTest && s.op == opXchg && s.rxq.isEmpty

/-- A whole frame with opcode `o`, free bytes `p`, arm `a` and class `c` meets the block.

At the end of a frame read it has been received: `RXBUF` and `RXLEN` hold it and the read ends. At XCHG's encode
point, or while the block is idle, it is a request: the encode step builds it (its checksum is the encoder's own)
and, at the encode point, the TX phase begins. In the other phases the block meets no frame and nothing changes.
`30_encoding.md` rule R64; `44_control_opcodes.md` rule R148; log entry 2.

A frame with 0xEF among its free bytes is never received whole: the read cuts it (`20_memory.md` rule R44,
`45_query_reply_notify_opcodes.md` rule R162). No run has it here in a frame read; that this function takes it as received
whole all the same is the model's choice, log entry 29. -/
def meetFrame (o : Byte) (a : ReplyArm) (c : EvClass) (p : Payload) (s : State) : State :=
  if s.phase = .rx ∨ s.phase = .drainRx then
    endFrameRead a c
      { s with rxbuf := ⟨startMarker, o, p.fb, p.p1, p.p2, p.ckh, p.ckl, endMarker⟩, rxlen := 8 }
  else if s.atEncodePoint then enterTx (encodeStep o p.fb p.p1 p.p2 s)
  else if s.phase = .idle then encodeStep o p.fb p.p1 p.p2 s
  else s

/-- Issue of a block operation: done if the block is idle; while BUSY it is refused, which sets `ERR.CMDERR` and
changes nothing else (`10_state.md` rules R21, R30). Log entry 5. -/
def issue (f : State → State) (s : State) : State := if s.busy then s.raise errCmderr else f s

/-- ENC's step (`41_codec.md` rule R85). -/
def encodeArgs (s : State) : State := encodeStep s.argOpc s.argFb s.argP1 s.argP2 s

/-- TXF's issue step (`42_uart.md` rule R92). -/
def beginTxf (s : State) : State := enterTx { s with op := opTxf }

/-- RXF's issue step (`42_uart.md` rule R97). -/
def beginRxf (s : State) : State := readFrameBegin { s with op := opRxf, phase := .rx }

/-- DRN's issue step (`43_exchange.md` rule R113). -/
def beginDrn (s : State) : State := { s with op := opDrn, phase := .drainTest }

/-- XCHG's issue step (`43_exchange.md` rule R115). -/
def beginXchg (s : State) : State := { s with op := opXchg, phase := .drainTest }

/-- FLUSH's issue step (`42_uart.md` rule R98). -/
def beginFlush (s : State) : State := { s with op := opFlush, phase := .flushWait }

/-- Whether `WireTx` can be taken: always at byte level, with the holding register empty at line level
(`42_uart.md` rules R90, R101). -/
def State.txReady (s : State) : Bool :=
  match s.level with
  | .byteLevel => true
  | .lineLevel => s.line.txHold.isNone

/-- "Transmitter idle": always at byte level; holding register empty and no character in progress at line level
(`42_uart.md` rules R98, R101). -/
def State.txDrained (s : State) : Bool :=
  match s.level with
  | .byteLevel => true
  | .lineLevel => s.line.txHold.isNone && s.line.txBits == 0

/-- Loading the holding register, which only the line level has (`42_uart.md` rules R101, R104). -/
def loadHold (lv : Level) (b : Byte) (l : Line) : Line :=
  match lv with
  | .byteLevel => l
  | .lineLevel => { l with txHold := some b }

/-- `WireTx(b)` (`42_uart.md` rule R90). -/
def wireTx (b : Byte) (s : State) : State :=
  { s with txwire := s.txwire ++ [b], line := loadHold s.level b s.line }

/-- What the eighth TxStep also does: XCHG begins the reply read, TXF ends (`43_exchange.md` rules R115, R120;
`42_uart.md` rule R92). -/
def leaveTx (s : State) : State := if s.op = opXchg then readFrameBegin { s with phase := .rx } else toIdle s

/-- TxStep (`42_uart.md` rule R91). -/
def txStep (s : State) : State :=
  let sent := wireTx (s.txbuf.get s.idx.toNat) { s with idx := s.idx + 1 }
  if sent.idx = 8 then leaveTx sent else sent

/-- RxStep's own effect, the oldest byte of `RXQ` being `b` and the rest `q` (`42_uart.md` rule R95). -/
def storeByte (b : Byte) (q : List Byte) (s : State) : State :=
  { s with rxq := q, rxbuf := s.rxbuf.set s.rxlen.toNat b, rxlen := s.rxlen + 1 }

/-- Whether the RxStep that stored `b` ends the frame read; `s` is the state after it (`42_uart.md` rule R95). -/
def State.readEnds (s : State) (b : Byte) : Bool := b == endMarker || s.rxlen == 8

/-- The sequencer waits for a byte: in a frame read with `RXQ` empty (`42_uart.md` rule R96). -/
def State.waiting (s : State) : Bool := (s.phase == .rx || s.phase == .drainRx) && s.rxq.isEmpty

/-- `Arrive(b)` into a queue of capacity `depth`, in the same step as a clearing of the ERR flags `clear`
(`42_uart.md` rule R93; `10_state.md` rule R24). -/
def arriveInto (depth : Nat) (b : Byte) (clear : BitVec 3) (s : State) : State :=
  { s with
    rxq := if s.rxq.length < depth then s.rxq ++ [b] else s.rxq
    err := errAfter s.err (if s.rxq.length < depth then 0 else errOverrun) clear }

/-- `Arrive(b)` (`42_uart.md` rule R93). -/
def arrive (b : Byte) (s : State) : State := arriveInto Config.rxqDepth b 0 s

/-- `rst`: every piece of state takes its reset value and the operation in progress is abandoned
(`70_reset_and_hazards.md` rule R250). The model's own three fields are kept (log entry 16). That it happens at once, at
no clock and with no state of being held in reset, is the model's choice (`10_state.md` rule R31 leaves `rst`'s
synchronisation open): log entry 28. -/
def resetBlock (s : State) : State :=
  { State.reset with level := s.level, agenda := s.agenda, later := s.later }

end Sys2Proof.Machine
end

