-- ==== Sys2Proof/Machine/BlockOps.lean ====
section
/-!
DEFINITION. Machine/BlockOps.lean: the seven block operations a host issues through CMD.

ENC and DEC are done in the issuing step; the others' first step is here and their micro-steps are the sequencer's
(`10_state.md` rule R12; Machine/Sequencer.lean).
-/

namespace Sys2Proof.Machine

/-- ENC (`41_codec.md` rule R85). -/
def execEnc (s : State) : Out := .next (issue encodeArgs s)

/-- DEC (`41_codec.md` rule R86). -/
def execDec (s : State) : Out := .next (issue decodeStep s)

/-- TXF (`42_uart.md` rule R92). -/
def execTxf (s : State) : Out := .next (issue beginTxf s)

/-- RXF (`42_uart.md` rule R97). -/
def execRxf (s : State) : Out := .next (issue beginRxf s)

/-- DRN (`43_exchange.md` rule R113). -/
def execDrn (s : State) : Out := .next (issue beginDrn s)

/-- XCHG (`43_exchange.md` rule R115). -/
def execXchg (s : State) : Out := .next (issue beginXchg s)

/-- FLUSH (`42_uart.md` rule R98). -/
def execFlush (s : State) : Out := .next (issue beginFlush s)

end Sys2Proof.Machine
end

