-- ==== Sys2Proof/Machine/ControlFrames.lean ====
section
/-!
DEFINITION. Machine/ControlFrames.lean: the 18 control request opcodes (`44_control_opcodes.md`).

As an operand of ENC or XCHG the opcode is built into the request frame; as a reply it takes the unrecognised arm;
drained, it is EV_OTHER (`44_control_opcodes.md` rule R148).
-/

namespace Sys2Proof.Machine

/-- NEXT = 0x01 (`44_control_opcodes.md` rules R130, R148). -/
def execNext (p : Payload) (s : State) : Out := .next (meetFrame Opcode.next .falsy .other p s)

/-- PREVIOUS = 0x02 (`44_control_opcodes.md` rules R131, R148). -/
def execPrevious (p : Payload) (s : State) : Out := .next (meetFrame Opcode.previous .falsy .other p s)

/-- PLAY_TRACK_NUM = 0x03 (`44_control_opcodes.md` rules R132, R148). -/
def execPlayTrackNum (p : Payload) (s : State) : Out := .next (meetFrame Opcode.playTrackNum .falsy .other p s)

/-- VOLUME_PLUS = 0x04 (`44_control_opcodes.md` rules R133, R148). -/
def execVolumePlus (p : Payload) (s : State) : Out := .next (meetFrame Opcode.volumePlus .falsy .other p s)

/-- VOLUME_MINUS = 0x05 (`44_control_opcodes.md` rules R134, R148). -/
def execVolumeMinus (p : Payload) (s : State) : Out := .next (meetFrame Opcode.volumeMinus .falsy .other p s)

/-- VOLUME_SET = 0x06 (`44_control_opcodes.md` rules R135, R148). -/
def execVolumeSet (p : Payload) (s : State) : Out := .next (meetFrame Opcode.volumeSet .falsy .other p s)

/-- SET_EQ = 0x07 (`44_control_opcodes.md` rules R136, R148). -/
def execSetEq (p : Payload) (s : State) : Out := .next (meetFrame Opcode.setEq .falsy .other p s)

/-- REPEAT_TRACK = 0x08 (`44_control_opcodes.md` rules R137, R148). -/
def execRepeatTrack (p : Payload) (s : State) : Out := .next (meetFrame Opcode.repeatTrack .falsy .other p s)

/-- PLAY_SOURCE = 0x09 (`44_control_opcodes.md` rules R138, R148). -/
def execPlaySource (p : Payload) (s : State) : Out := .next (meetFrame Opcode.playSource .falsy .other p s)

/-- SLEEP = 0x0A (`44_control_opcodes.md` rules R139, R148). -/
def execSleep (p : Payload) (s : State) : Out := .next (meetFrame Opcode.sleep .falsy .other p s)

/-- RESET = 0x0C (`44_control_opcodes.md` rules R140, R148). -/
def execReset (p : Payload) (s : State) : Out := .next (meetFrame Opcode.reset .falsy .other p s)

/-- PLAY = 0x0D (`44_control_opcodes.md` rules R141, R148). -/
def execPlay (p : Payload) (s : State) : Out := .next (meetFrame Opcode.play .falsy .other p s)

/-- PAUSE = 0x0E (`44_control_opcodes.md` rules R142, R148). -/
def execPause (p : Payload) (s : State) : Out := .next (meetFrame Opcode.pause .falsy .other p s)

/-- FOLDER_AND_TRACK = 0x0F (`44_control_opcodes.md` rules R143, R148). -/
def execFolderAndTrack (p : Payload) (s : State) : Out := .next (meetFrame Opcode.folderAndTrack .falsy .other p s)

/-- CONTINUOUS = 0x11 (`44_control_opcodes.md` rules R144, R148). -/
def execContinuous (p : Payload) (s : State) : Out := .next (meetFrame Opcode.continuous .falsy .other p s)

/-- STOP = 0x16 (`44_control_opcodes.md` rules R145, R148). -/
def execStop (p : Payload) (s : State) : Out := .next (meetFrame Opcode.stop .falsy .other p s)

/-- RANDOM_TRACK = 0x18 (`44_control_opcodes.md` rules R146, R148). -/
def execRandomTrack (p : Payload) (s : State) : Out := .next (meetFrame Opcode.randomTrack .falsy .other p s)

/-- SINGLE_PLAY = 0x19 (`44_control_opcodes.md` rules R147, R148). -/
def execSinglePlay (p : Payload) (s : State) : Out := .next (meetFrame Opcode.singlePlay .falsy .other p s)

end Sys2Proof.Machine
end

