-- ==== Sys2Proof/Machine/NotifyFrames.lean ====
section
/-!
DEFINITION. Machine/NotifyFrames.lean: the five notification opcodes (`45_query_reply_notify_opcodes.md`).

Drained, each emits its event; as the first frame after a request it is taken as the reply and gives the falsy
result; as an operand of ENC it encodes like any byte (`45_query_reply_notify_opcodes.md` rule R170).
-/

namespace Sys2Proof.Machine

/-- SOURCE_INSERT = 0x3A (`45_query_reply_notify_opcodes.md` rules R171, R170). -/
def execSourceInsert (p : Payload) (s : State) : Out := .next (meetFrame Opcode.sourceInsert .falsy (insertClass p.p2) p s)

/-- SOURCE_REMOVED = 0x3B (`45_query_reply_notify_opcodes.md` rules R172, R170). -/
def execSourceRemoved (p : Payload) (s : State) : Out := .next (meetFrame Opcode.sourceRemoved .falsy (removeClass p.p2) p s)

/-- USB_DONE = 0x3C (`45_query_reply_notify_opcodes.md` rules R173, R170). -/
def execUsbDone (p : Payload) (s : State) : Out := .next (meetFrame Opcode.usbDone .falsy .usbDone p s)

/-- USD_DONE = 0x3D (`45_query_reply_notify_opcodes.md` rules R174, R170). -/
def execUsdDone (p : Payload) (s : State) : Out := .next (meetFrame Opcode.usdDone .falsy .cardDone p s)

/-- STARTUP = 0x3F (`45_query_reply_notify_opcodes.md` rules R175, R170). -/
def execStartup (p : Payload) (s : State) : Out := .next (meetFrame Opcode.startup .falsy (startupClass Config.startup p.p2) p s)

end Sys2Proof.Machine
end

