-- ==== Sys2Proof/Machine/QueryFrames.lean ====
section
/-!
DEFINITION. Machine/QueryFrames.lean: the seven query opcodes (`45_query_reply_notify_opcodes.md`).

A request like any other; as a reply RESULT is the reply's para2 and RKIND is VALUE; drained, it is EV_OTHER
(`45_query_reply_notify_opcodes.md` rule R176).
-/

namespace Sys2Proof.Machine

/-- QUERY_VOLUME = 0x43 (`45_query_reply_notify_opcodes.md` rules R160, R176). -/
def execQueryVolume (p : Payload) (s : State) : Out := .next (meetFrame Opcode.queryVolume .value .other p s)

/-- QUERY_EQ = 0x44 (`45_query_reply_notify_opcodes.md` rules R161, R176). -/
def execQueryEq (p : Payload) (s : State) : Out := .next (meetFrame Opcode.queryEq .value .other p s)

/-- QUERY_TRACKS_USB = 0x47 (`45_query_reply_notify_opcodes.md` rules R162, R176). -/
def execQueryTracksUsb (p : Payload) (s : State) : Out := .next (meetFrame Opcode.queryTracksUsb .value .other p s)

/-- QUERY_TRACKS_USD = 0x48 (`45_query_reply_notify_opcodes.md` rules R163, R176). -/
def execQueryTracksUsd (p : Payload) (s : State) : Out := .next (meetFrame Opcode.queryTracksUsd .value .other p s)

/-- QUERY_CUR_TRACK_USB = 0x4B (`45_query_reply_notify_opcodes.md` rules R164, R176). -/
def execQueryCurTrackUsb (p : Payload) (s : State) : Out := .next (meetFrame Opcode.queryCurTrackUsb .value .other p s)

/-- QUERY_CUR_TRACK_USD = 0x4C (`45_query_reply_notify_opcodes.md` rules R165, R176). -/
def execQueryCurTrackUsd (p : Payload) (s : State) : Out := .next (meetFrame Opcode.queryCurTrackUsd .value .other p s)

/-- QUERY_TRACKS_IN_FOLDER = 0x4E (`45_query_reply_notify_opcodes.md` rules R166, R176). -/
def execQueryTracksInFolder (p : Payload) (s : State) : Out := .next (meetFrame Opcode.queryTracksInFolder .value .other p s)

end Sys2Proof.Machine
end

