-- ==== Sys2Proof/Machine/ReplyFrames.lean ====
section
/-!
DEFINITION. Machine/ReplyFrames.lean: ACK and NAK (`45_query_reply_notify_opcodes.md` rules R167, R168).

As a reply ACK gives 0x01 and NAK gives the reply's para2; drained, each is EV_OTHER; as an operand of ENC or XCHG
each is encoded like any byte.
-/

namespace Sys2Proof.Machine

/-- NAK = 0x40 (`45_query_reply_notify_opcodes.md` rule R168). -/
def execNak (p : Payload) (s : State) : Out := .next (meetFrame Opcode.nak .nakCode .other p s)

/-- ACK = 0x41 (`45_query_reply_notify_opcodes.md` rule R167). -/
def execAck (p : Payload) (s : State) : Out := .next (meetFrame Opcode.ack .ack .other p s)

end Sys2Proof.Machine
end

