-- ==== Sys2Proof/Machine/Dispatch.lean ====
section
/-!
DEFINITION. Machine/Dispatch.lean: exec, one arm per constructor of Instr.
-/

namespace Sys2Proof.Machine

/-- The meaning of an instruction. -/
def exec (i : Instr) (s : State) : Host.Outcome State Fault Refusal :=
  match i with
  | .next p => Sys2Proof.Machine.execNext p s
  | .previous p => Sys2Proof.Machine.execPrevious p s
  | .playTrackNum p => Sys2Proof.Machine.execPlayTrackNum p s
  | .volumePlus p => Sys2Proof.Machine.execVolumePlus p s
  | .volumeMinus p => Sys2Proof.Machine.execVolumeMinus p s
  | .volumeSet p => Sys2Proof.Machine.execVolumeSet p s
  | .setEq p => Sys2Proof.Machine.execSetEq p s
  | .repeatTrack p => Sys2Proof.Machine.execRepeatTrack p s
  | .playSource p => Sys2Proof.Machine.execPlaySource p s
  | .sleep p => Sys2Proof.Machine.execSleep p s
  | .reset p => Sys2Proof.Machine.execReset p s
  | .play p => Sys2Proof.Machine.execPlay p s
  | .pause p => Sys2Proof.Machine.execPause p s
  | .folderAndTrack p => Sys2Proof.Machine.execFolderAndTrack p s
  | .continuous p => Sys2Proof.Machine.execContinuous p s
  | .stop p => Sys2Proof.Machine.execStop p s
  | .randomTrack p => Sys2Proof.Machine.execRandomTrack p s
  | .singlePlay p => Sys2Proof.Machine.execSinglePlay p s
  | .sourceInsert p => Sys2Proof.Machine.execSourceInsert p s
  | .sourceRemoved p => Sys2Proof.Machine.execSourceRemoved p s
  | .usbDone p => Sys2Proof.Machine.execUsbDone p s
  | .usdDone p => Sys2Proof.Machine.execUsdDone p s
  | .startup p => Sys2Proof.Machine.execStartup p s
  | .nak p => Sys2Proof.Machine.execNak p s
  | .ack p => Sys2Proof.Machine.execAck p s
  | .queryVolume p => Sys2Proof.Machine.execQueryVolume p s
  | .queryEq p => Sys2Proof.Machine.execQueryEq p s
  | .queryTracksUsb p => Sys2Proof.Machine.execQueryTracksUsb p s
  | .queryTracksUsd p => Sys2Proof.Machine.execQueryTracksUsd p s
  | .queryCurTrackUsb p => Sys2Proof.Machine.execQueryCurTrackUsb p s
  | .queryCurTrackUsd p => Sys2Proof.Machine.execQueryCurTrackUsd p s
  | .queryTracksInFolder p => Sys2Proof.Machine.execQueryTracksInFolder p s
  | .enc => Sys2Proof.Machine.execEnc s
  | .dec => Sys2Proof.Machine.execDec s
  | .txf => Sys2Proof.Machine.execTxf s
  | .rxf => Sys2Proof.Machine.execRxf s
  | .drn => Sys2Proof.Machine.execDrn s
  | .xchg => Sys2Proof.Machine.execXchg s
  | .flush => Sys2Proof.Machine.execFlush s

end Sys2Proof.Machine
end

