-- ==== Sys2Proof/Machine/Host.lean ====
section
/-!
DEFINITION. Machine/Host.lean: the HOST agent: register reads and writes (`10_state.md` rules R20, R21, R24, R30),
and the written lines that stand for sequences of them (`30_encoding.md` rule R69).
-/

namespace Sys2Proof.Machine

/-- The instruction a CMD write of `v` fetches (`10_state.md` rule R21). -/
def fetchCommand (v : Byte) : Option Instr := (decodeCommand v).toOption

/-- `RegWrite(CMD, v)`: the block operation of code `v` is issued; any other code issues nothing and sets
`ERR.CMDERR` (`10_state.md` rule R21). What an issue while BUSY does is `issue`'s. -/
def writeCommand (v : Byte) (s : State) : Out :=
  match fetchCommand v with
  | some i => exec i s
  | none => .next (s.raise errCmderr)

/-- `RegWrite(n, v)`: CMD and ERR are written at any time, the others only while the block is idle (`10_state.md`
rule R30). A number above 0x3F is not part of the block. Log entry 6. -/
def hostWrite (n : Nat) (v : Byte) (s : State) : Out :=
  if n < regCount then
    match regAt n with
    | .cmd => writeCommand v s
    | .err => .next (s.writeErr v)
    | r => .next (if s.busy then s else s.writeIdle r v)
  else .refused (.registerOutsideMap n)

/-- `RegRead(n)`: the value appears on the host port and nothing else changes (`20_memory.md` rule R47). -/
def hostRead (n : Nat) (s : State) : Out :=
  if n < regCount then .next { s with hostData := s.readReg (regAt n) } else .refused (.registerOutsideMap n)

/-! The written syntax of `30_encoding.md` rule R69, as the host's turns; the polling of STATUS is one read. -/

/-- The four operand writes. -/
def operandWrites (o f p1 p2 : Byte) : List Turn :=
  [.hostWrite 0x01 o, .hostWrite 0x02 f, .hostWrite 0x03 p1, .hostWrite 0x04 p2]

/-- `RegRead(STATUS)`, repeated by the host until BUSY = 0. -/
def pollStatus : Turn := .hostRead 0x06

/-- `ENC o, f, p1, p2`. -/
def lineEnc (o f p1 p2 : Byte) : List Turn := operandWrites o f p1 p2 ++ [.hostWrite 0x00 0x01]

/-- `DEC`. -/
def lineDec : List Turn := [.hostWrite 0x00 0x02]

/-- `TXF`, up to the polling. -/
def lineTxf : List Turn := [.hostWrite 0x00 0x03]

/-- `RXF`, up to the polling. -/
def lineRxf : List Turn := [.hostWrite 0x00 0x04]

/-- `DRN`, up to the polling. -/
def lineDrn : List Turn := [.hostWrite 0x00 0x05]

/-- `XCHG o, f, p1, p2`, up to the polling. -/
def lineXchg (o f p1 p2 : Byte) : List Turn := operandWrites o f p1 p2 ++ [.hostWrite 0x00 0x06]

/-- `FLUSH`, up to the polling. -/
def lineFlush : List Turn := [.hostWrite 0x00 0x07]

/-- `LDRX b0 .. b7, n`: a macro, not an operation. -/
def lineLdrx (f : Buf8) (n : Byte) : List Turn :=
  [.hostWrite 0x18 f.b0, .hostWrite 0x19 f.b1, .hostWrite 0x1A f.b2, .hostWrite 0x1B f.b3, .hostWrite 0x1C f.b4,
   .hostWrite 0x1D f.b5, .hostWrite 0x1E f.b6, .hostWrite 0x1F f.b7, .hostWrite 0x0B n]

end Sys2Proof.Machine
end

