-- ==== Sys2Proof/Machine/Uart.lean ====
section
/-!
DEFINITION. Machine/Uart.lean: the line level: one clock of the transmitter, the receiver and the timeout counter
(`42_uart.md` rules R100 to R103). `bc` is the number of clocks in a bit time. Log entries 7, 8 and 9.
-/

namespace Sys2Proof.Machine

/-- Clocks per bit: `CLK_HZ / 9600`, rounded to nearest (`42_uart.md` rule R101). -/
def bitClocks : Nat := (Config.clkHz + Config.baud / 2) / Config.baud

/-- RX_TIMEOUT converted to clocks (`42_uart.md` rule R103), at least one. -/
def timeoutClocks : Nat := max 1 (Config.clkHz * Config.rxTimeoutMs / 1000)

/-- The ten bits of a character, the first on the line in bit 0: start bit low, eight data bits with the least
significant first, stop bit high (`42_uart.md` rule R100). -/
def characterBits (b : Byte) : BitVec 10 := (1#1 ++ b) ++ 0#1

/-- The TX pin: the bit being sent, or the idle level, high (`42_uart.md` rules R100, R105). -/
def Line.txPin (l : Line) : Bool := if l.txBits = 0 then true else l.txShift.getLsbD 0

/-- The byte moves from the holding register to the shift register (`42_uart.md` rule R101). -/
def startCharacter (b : Byte) (l : Line) : Line :=
  { l with txHold := none, txShift := characterBits b, txBits := 10, txDiv := 0 }

/-- The transmitter between characters: it starts the held byte at once, or idles (`42_uart.md` rule R101). -/
def nextCharacter (l : Line) : Line :=
  match l.txHold with
  | some b => startCharacter b l
  | none => { l with txBits := 0, txDiv := 0 }

/-- One clock of the transmitter (`42_uart.md` rule R101). -/
def txTick (bc : Nat) (l : Line) : Line :=
  if l.txBits = 0 then nextCharacter l
  else if l.txDiv + 1 < bc then { l with txDiv := l.txDiv + 1 }
  else if l.txBits = 1 then nextCharacter l
  else { l with txShift := l.txShift >>> 1, txBits := l.txBits - 1, txDiv := 0 }

/-- What the receiver reports in one clock (`42_uart.md` rule R102). -/
inductive RxReport where
  | nothing
  /-- A good stop bit was sampled: the character is offered to `Arrive`. -/
  | byte (b : Byte)
  /-- A bad stop bit was sampled: the character is dropped. -/
  | framing
  deriving DecidableEq, Repr

/-- The receive shift register after one more data bit, least significant first (`42_uart.md` rule R102). -/
def shiftIn (rx : Bool) (b : Byte) : Byte := (BitVec.ofBool rx ++ b).extractLsb' 1 8

/-- One clock of the receiver, the synchronised RX level being `rx` (`42_uart.md` rule R102). -/
def rxTick (bc : Nat) (rx : Bool) (l : Line) : Line × RxReport :=
  match l.rxFsm with
  | .hunting =>
    if l.rxPrev && !rx then ({ l with rxFsm := .start, rxCount := 0, rxPrev := rx }, .nothing)
    else ({ l with rxPrev := rx }, .nothing)
  | .start =>
    if l.rxCount + 1 < bc / 2 then ({ l with rxCount := l.rxCount + 1, rxPrev := rx }, .nothing)
    else if rx then ({ l with rxFsm := .hunting, rxCount := 0, rxPrev := rx }, .nothing)
    else ({ l with rxFsm := .data, rxCount := 0, rxBits := 0, rxPrev := rx }, .nothing)
  | .data =>
    if l.rxCount + 1 < bc then ({ l with rxCount := l.rxCount + 1, rxPrev := rx }, .nothing)
    else
      ({ l with
          rxFsm := if l.rxBits + 1 < 8 then .data else .stop, rxShift := shiftIn rx l.rxShift, rxBits := l.rxBits + 1,
          rxCount := 0, rxPrev := rx }, .nothing)
  | .stop =>
    if l.rxCount + 1 < bc then ({ l with rxCount := l.rxCount + 1, rxPrev := rx }, .nothing)
    else if rx then ({ l with rxFsm := .hunting, rxCount := 0, rxPrev := rx }, .byte l.rxShift)
    else ({ l with rxFsm := .recover, rxCount := 0, rxPrev := rx }, .framing)
  | .recover =>
    if rx then ({ l with rxFsm := .hunting, rxPrev := rx }, .nothing) else ({ l with rxPrev := rx }, .nothing)

/-- The receiver's report reaches the block: `Arrive(b)`, or `ERR.FERR <- 1` (`42_uart.md` rules R93, R102). -/
def takeReport (r : RxReport) (s : State) : State :=
  match r with
  | .nothing => s
  | .byte b => arrive b s
  | .framing => s.raise errFerr

/-- One clock of the line level but for the timeout: transmitter, receiver, and the end of the event port's
one-clock strobe (`42_uart.md` rules R101, R102; `10_state.md` rule R28). -/
def lineTick (bc : Nat) (rx : Bool) (s : State) : State :=
  let after := rxTick bc rx (txTick bc s.line)
  takeReport after.2 { s with line := { after.1 with evt := none } }

/-- The timeout counter after one more clock: it counts while the sequencer waits with `RXQ` empty and is cleared
otherwise (`42_uart.md` rule R103). -/
def countWait (s : State) : State :=
  { s with line := { s.line with toCount := if s.waiting then s.line.toCount + 1 else 0 } }

/-- The timeout counter has reached its limit `n` in a wait (`42_uart.md` rule R103). -/
def State.waitExpired (n : Nat) (s : State) : Bool := s.waiting && n ≤ s.line.toCount

/-- The timeout counter cleared. -/
def clearWait (s : State) : State := { s with line := { s.line with toCount := 0 } }

end Sys2Proof.Machine
end

