-- ==== Sys2Proof/Machine/Sequencer.lean ====
section
/-!
DEFINITION. Machine/Sequencer.lean: the other agents: SEQ, TIMER, LINK-RX, the clock and `rst`; and whose turn it is.

The sequencer's transitions are the rows of `43_exchange.md` rule R120. Where it meets a whole frame that is a row
of the opcode table it runs that instruction; any other bytes (an unlisted opcode, a short or garbled frame) take
the same path by their opcode byte (`30_encoding.md` rule R65; `43_exchange.md` rules R112, R116).
-/

namespace Sys2Proof.Machine

/-- The frame instruction a finished frame read has fetched: a whole frame of the opcode table in `RXBUF`. -/
def fetchReceived (s : State) : Option Instr := if s.rxlen = 8 then (decodeFrame s.rxbuf).toOption else none

/-- The step that ends a frame read, after its own effect (`42_uart.md` rule R95; `43_exchange.md` rule R120). -/
def frameReadEnds (s : State) : Out :=
  match fetchReceived s with
  | some i => exec i s
  | none => .next (endFrameRead (replyArm s.rxbuf.b1) (eventClass Config.startup s.rxbuf.b1 s.rxbuf.b4) s)

/-- The frame instruction XCHG's encode point fetches: the request the operand registers hold. -/
def fetchRequest (s : State) : Option Instr := (decodeFrame (mkFrame s.argOpc s.argFb s.argP1 s.argP2)).toOption

/-- XCHG's encode point (`43_exchange.md` rule R115). -/
def encodeRequest (s : State) : Out :=
  match fetchRequest s with
  | some i => exec i s
  | none => .next (enterTx (encodeArgs s))

/-- DrainTest (`43_exchange.md` rules R111, R113, R115). -/
def drainTestStep (s : State) : Out :=
  if s.rxq.isEmpty then (if s.op = opXchg then encodeRequest s else .next (toIdle s))
  else .next (readFrameBegin { s with phase := .drainRx })

/-- RxStep (`42_uart.md` rule R95); with `RXQ` empty the sequencer has no step (`43_exchange.md` rule R120). -/
def rxStep (s : State) : Out :=
  match s.rxq with
  | [] => .next s
  | b :: q => if (storeByte b q s).readEnds b then frameReadEnds (storeByte b q s) else .next (storeByte b q s)

/-- The sequencer has an enabled micro-step (`43_exchange.md` rule R120). -/
def State.seqEnabled (s : State) : Bool :=
  match s.phase with
  | .idle => false
  | .drainTest => true
  | .drainRx => !s.rxq.isEmpty
  | .rx => !s.rxq.isEmpty
  | .tx => s.txReady
  | .flushWait => s.txDrained

/-- SEQ's micro-step; a sequencer with none lets its turn pass (`43_exchange.md` rule R120). -/
def seqStep (s : State) : Out :=
  if s.seqEnabled then
    match s.phase with
    | .idle => .next s
    | .drainTest => drainTestStep s
    | .drainRx => rxStep s
    | .rx => rxStep s
    | .tx => .next (txStep s)
    | .flushWait => .next (toIdle s)
  else .next s

/-- The `Timeout` step where it is enabled (`42_uart.md` rule R96). -/
def timeoutStep (s : State) : Out := frameReadEnds { s with tmo := true }

/-- TIMER's turn at byte level; a timer whose step is not enabled lets it pass (`42_uart.md` rule R96). -/
def timerTurn (s : State) : Out :=
  if s.level = .byteLevel ∧ s.waiting then timeoutStep s else .next s

/-- LINK-RX's turn at byte level, with the ERR flags the host clears in the same step (`42_uart.md` rule R93;
`10_state.md` rule R24). At line level bytes come from the RX pin only (`42_uart.md` rule R104). -/
def linkTurn (b : Byte) (clear : BitVec 3) (s : State) : Out :=
  if s.level = .byteLevel then .next (arriveInto Config.rxqDepth b clear s) else .next s

/-- One clock of the line level, `bc` clocks to a bit and `n` to a timeout (`42_uart.md` rules R101 to R103). -/
def clockStep (bc n : Nat) (rx : Bool) (s : State) : Out :=
  let counted := countWait (lineTick bc rx s)
  if counted.waitExpired n then timeoutStep (clearWait counted) else .next counted

/-- A clock's turn; there is none at byte level (`10_state.md` rule R10). -/
def clockTurn (rx : Bool) (s : State) : Out :=
  if s.level = .lineLevel then clockStep bitClocks timeoutClocks rx s else .next s

/-- One step of one agent (`10_state.md` rules R11, R12). That `rst` acts in one turn, tied to no clock, is the model's
choice: log entry 28. -/
def takeTurn (t : Turn) (s : State) : Out :=
  match t with
  | .hostRead n => hostRead n s
  | .hostWrite n v => hostWrite n v s
  | .seq => seqStep s
  | .arrive b => linkTurn b 0 s
  | .arriveAndErrWrite b v => linkTurn b (v.setWidth 3) s
  | .timeout => timerTurn s
  | .rst => .next (resetBlock s)
  | .clk rx => clockTurn rx s

/-- Whose turn it is when nothing more comes from outside: the sequencer's while it has a step; else the timer's at
byte level, which is weakly fair (`42_uart.md` rule R99), and a clock with the RX line idle at line level. Log
entry 1. -/
def State.ownTurn (s : State) : Turn :=
  if s.seqEnabled then .seq
  else
    match s.level with
    | .byteLevel => .timeout
    | .lineLevel => .clk true

/-- The turn the next step takes: the first of the agenda, else the first of what comes later, else, if nothing more
comes from outside, the block's own. Log entry 1. -/
def State.nextTurn (s : State) : Turn :=
  match s.agenda, s.later with
  | t :: _, _ => t
  | [], .quiet => s.ownTurn
  | [], .again t _ => t
  | [], .free n => Config.laterTurn n

/-- The state with the next turn taken off the model's own schedule, all else as it is. Log entry 1. -/
def State.turnSpent (s : State) : State :=
  match s.agenda, s.later with
  | _ :: ts, _ => { s with agenda := ts }
  | [], .quiet => s
  | [], .again _ ts => { s with agenda := ts }
  | [], .free n => { s with later := .free (n + 1) }

/-- The step: the next turn is taken. -/
def runTurn (s : State) : Out := takeTurn s.nextTurn s.turnSpent

/-- A word stored where the next step fetches an instruction. A command byte: the host's next turn writes it to CMD.
A frame: all of it but its last byte has been read, a notification by DRN's drain turn and any other frame by
XCHG's reply read, and the last byte is next in `RXQ`. Log entry 12. A frame with 0xEF among its free bytes is placed the
same way, a state no run reaches, since the read would have cut the frame at that byte (`20_memory.md` rule R44): the
model's choice, log entry 29. -/
def placeWord (s : State) (nbits w : Nat) : State :=
  if nbits = 64 then
    { s with
      phase := if isNotif (frameOfWord w).b1 then .drainRx else .rx
      op := if isNotif (frameOfWord w).b1 then opDrn else opXchg
      rxbuf := { frameOfWord w with b7 := 0 }
      rxlen := 7
      rxq := (frameOfWord w).b7 :: s.rxq
      agenda := .seq :: s.agenda }
  else { s with agenda := .hostWrite 0x00 (BitVec.ofNat 8 w) :: s.agenda }

end Sys2Proof.Machine
end

