-- ==== Sys2Proof/Machine/Step.lean ====
section
/-!
DEFINITION. Machine/Step.lean: one step of the machine, and where its next instruction is placed.
-/

namespace Sys2Proof.Machine

/-- One step: one turn of one agent (`10_state.md` rule R11). -/
def step (s : State) : Host.Outcome State Fault Refusal := runTurn s

/-- The state with an instruction's word stored where `step` fetches next. Log entries 12 and 29. -/
def State.withFetchWord (s : State) (nbits w : Nat) : State := placeWord s nbits w

end Sys2Proof.Machine
end

