-- ==== Sys2Proof/Machine/Facade.lean ====
section
/-!
DEFINITION. Machine/Facade.lean: the control facade (`46_facade.md`), host software outside the block
(`00_scope.md` rule R4), each operation as the one XCHG it expands to. Log entry 15.
-/

namespace Sys2Proof.Machine

/-- The 21 facade operations (`46_facade.md` rules R194 to R214). -/
inductive FacadeOp where
  | volumeUp
  | volumeDown
  | setVolume (v : Byte)
  | getVolume
  | playNext
  | playPrevious
  | playFolderTrack (folder track : Byte)
  | playTrack (n : Byte)
  | repeatTrack (n : Byte)
  | play
  | pause
  | stop
  | setSource (s : Byte)
  | setEQ (e : Byte)
  | setMode (m : Byte)
  | sleep
  | reset
  | getEQ
  | getTracksUSB
  | getTracksSD
  | getTracksInFolder (folder : Byte)
  deriving DecidableEq, Repr

/-- `setVolume` "clamps its input to [0, 30]" (`46_facade.md` rule R196). -/
def clampVolume (v : Byte) : Byte := if v ≤ Config.volMax then v else Config.volMax

/-- The opcode of a play mode (`46_facade.md` rule R208). -/
def modeOpcode : PlayMode → Byte
  | .singlePlay => Opcode.singlePlay
  | .continuous => Opcode.continuous
  | .random => Opcode.randomTrack

/-- The opcode, para1 and para2 of the one XCHG an operation expands to; `none` for `setMode` of an argument that
selects no mode, which the facade reports as invalid (`46_facade.md` rules R191, R194 to R214). -/
def FacadeOp.request? : FacadeOp → Option (Byte × Byte × Byte)
  | .volumeUp => some (Opcode.volumePlus, 0, 0)
  | .volumeDown => some (Opcode.volumeMinus, 0, 0)
  | .setVolume v => some (Opcode.volumeSet, 0, clampVolume v)
  | .getVolume => some (Opcode.queryVolume, 0, 0)
  | .playNext => some (Opcode.next, 0, 0)
  | .playPrevious => some (Opcode.previous, 0, 0)
  | .playFolderTrack folder track => some (Opcode.folderAndTrack, folder, track)
  | .playTrack n => some (Opcode.playTrackNum, 0, n)
  | .repeatTrack n => some (Opcode.repeatTrack, 0, n)
  | .play => some (Opcode.play, 0, 0)
  | .pause => some (Opcode.pause, 0, 0)
  | .stop => some (Opcode.stop, 0, 0)
  | .setSource s => some (Opcode.playSource, 0, s)
  | .setEQ e => some (Opcode.setEq, 0, e)
  | .setMode m => (Config.playModeOf m).map fun k => (modeOpcode k, 0, 0)
  | .sleep => some (Opcode.sleep, 0, 0)
  | .reset => some (Opcode.reset, 0, 0)
  | .getEQ => some (Opcode.queryEq, 0, 0)
  | .getTracksUSB => some (Opcode.queryTracksUsb, 0, 0)
  | .getTracksSD => some (Opcode.queryTracksUsd, 0, 0)
  | .getTracksInFolder folder => some (Opcode.queryTracksInFolder, 0, folder)

/-- The host's turns for a facade operation: one XCHG with the feedback byte FACADE_FB, or nothing
(`46_facade.md` rules R190, R191, R208). -/
def FacadeOp.turns (op : FacadeOp) : List Turn :=
  match op.request? with
  | some (o, p1, p2) => lineXchg o Config.facadeFb p1 p2
  | none => []

end Sys2Proof.Machine
end

