-- ==== Sys2Proof/Safety.lean ====
section
/-!
DEFINITION. Safety.lean: the terms in which claims speak of runs: the invariant of reachable states, and the
reference functions a frame read and a drain are compared with.
-/

namespace Sys2Proof.Machine

/-! The parts of the invariant. -/

/-- OP fits PHASE: the (PHASE, OP) pairs of `43_exchange.md` rule R120, no others. -/
def State.phaseFitsOp (s : State) : Bool :=
  match s.phase with
  | .idle => s.op == 0
  | .drainTest => s.op == opDrn || s.op == opXchg
  | .drainRx => s.op == opDrn || s.op == opXchg
  | .tx => s.op == opTxf || s.op == opXchg
  | .rx => s.op == opRxf || s.op == opXchg
  | .flushWait => s.op == opFlush

/-- IDX is 0 to 8, and less than 8 while a byte is still to be sent (`10_state.md` rule R14; `42_uart.md` rule R91). -/
def State.idxInRange (s : State) : Bool := s.idx.toNat ≤ 8 && (s.phase != .tx || s.idx.toNat < 8)

/-- During a frame read fewer than eight bytes are stored, none of them is the terminator, and the offsets not yet
reached hold 0x00 (`42_uart.md` rule R95). -/
def State.readBufferClean (s : State) : Prop :=
  s.phase = .rx ∨ s.phase = .drainRx →
    s.rxlen.toNat < 8 ∧ (∀ i, i < s.rxlen.toNat → s.rxbuf.get i ≠ endMarker) ∧
      ∀ i, s.rxlen.toNat ≤ i → i < 8 → s.rxbuf.get i = 0

/-- A drain turn that has stored nothing yet finds a byte waiting (`43_exchange.md` rule R111). -/
def State.turnHasByte (s : State) : Prop := s.phase = .drainRx → s.rxlen = 0 → s.rxq ≠ []

/-- In the TX phase the last IDX bytes on the wire are the first IDX bytes of `TXBUF` (`20_memory.md` rule R48;
`42_uart.md` rule R91). -/
def State.sentSoFar (s : State) : Prop := s.phase = .tx → (s.txbuf.toList.take s.idx.toNat) <:+ s.txwire

/-- XCHG sends the frame of its operands, and sends it whole before it reads the reply (`20_memory.md` rules R51,
R53). -/
def State.requestIsOperands (s : State) : Prop :=
  s.op = opXchg →
    (s.phase = .tx → s.txbuf = mkFrame s.argOpc s.argFb s.argP1 s.argP2) ∧
      (s.phase = .rx → s.txbuf = mkFrame s.argOpc s.argFb s.argP1 s.argP2 ∧ s.txbuf.toList <:+ s.txwire)

/-- RXQ holds at most RXQ_DEPTH bytes (`10_state.md` rule R27). -/
def State.queueFits (s : State) : Prop := s.rxq.length ≤ Config.rxqDepth

/-- `DSTAT.VALID` is the conjunction of the other four bits (`10_state.md` rule R25). -/
def State.validIsAnd (s : State) : Prop :=
  s.valid = (s.dstat.getLsbD 0 && s.dstat.getLsbD 1 && s.dstat.getLsbD 2 && s.dstat.getLsbD 3)

/-- RESULT is 0x00 when RKIND is NONE and 0x01 when it is ACK (`10_state.md` rule R17; `43_exchange.md` rule R116). -/
def State.resultFitsKind (s : State) : Prop :=
  (s.rkind = .noReply → s.result = 0x00) ∧ (s.rkind = .ack → s.result = 0x01)

/-- At byte level the line-level state is idle (`10_state.md` rule R29). -/
def State.lineIdleAtByteLevel (s : State) : Prop := s.level = .byteLevel → s.line = Line.idle

/-- The line's bit counters stay in the range of a ten-bit character (`42_uart.md` rules R100 to R102). -/
def State.lineCountersInRange (s : State) : Prop :=
  s.line.txBits ≤ 10 ∧ (s.line.rxFsm = .data → s.line.rxBits < 8) ∧ (s.line.rxFsm = .stop → s.line.rxBits = 8)

/-- The invariant of the block: it holds at reset and every step keeps it. -/
structure State.Inv (s : State) : Prop where
  phaseFitsOp : s.phaseFitsOp = true
  idxInRange : s.idxInRange = true
  readBufferClean : s.readBufferClean
  turnHasByte : s.turnHasByte
  sentSoFar : s.sentSoFar
  requestIsOperands : s.requestIsOperands
  queueFits : s.queueFits
  validIsAnd : s.validIsAnd
  resultFitsKind : s.resultFitsKind
  lineIdleAtByteLevel : s.lineIdleAtByteLevel
  lineCountersInRange : s.lineCountersInRange

/-! Reference functions. -/

/-- The bytes of a frame read that a byte ended: the terminator or the eighth byte is the last, and no terminator
stands before it (`20_memory.md` rule R43; `42_uart.md` rule R95). -/
def endedFrame (f : List Byte) : Prop :=
  f.length ≤ 8 ∧ (∀ b ∈ f.dropLast, b ≠ endMarker) ∧ (f.getLast? = some endMarker ∨ f.length = 8)

/-- The bytes of a frame read that the timeout ended: fewer than eight, none of them the terminator (`42_uart.md`
rules R95, R96). -/
def partialFrame (f : List Byte) : Prop := f.length < 8 ∧ ∀ b ∈ f, b ≠ endMarker

/-- A buffer that holds the bytes of `bs` from offset 0 on and 0x00 beyond (`42_uart.md` rule R95). -/
def fillBuffer (bs : List Byte) : Buf8 :=
  ⟨bs.getD 0 0, bs.getD 1 0, bs.getD 2 0, bs.getD 3 0, bs.getD 4 0, bs.getD 5 0, bs.getD 6 0, bs.getD 7 0⟩

/-- The record a drained frame of the bytes `bs` gives (`43_exchange.md` rule R112): class by opcode if the frame is
usable, then the opcode, para2 and the decode status. -/
def drainedEvent (strict : Bool) (bs : List Byte) : Event :=
  let f := fillBuffer bs
  let d := dstatOf f (BitVec.ofNat 4 bs.length)
  ⟨if !strict || d.getLsbD 4 then eventClass Config.startup f.b1 f.b4 else .other, f.b1, f.b4, d⟩

/-- RESULT and RKIND after the interpret step on a reply of the bytes `bs` (`43_exchange.md` rule R116): the opcode is
byte 1, the parameter byte 4, and in strict mode an invalid frame is unrecognised. -/
def replyResult (strict : Bool) (bs : List Byte) : Byte × RKind :=
  let f := fillBuffer bs
  if !strict || (dstatOf f (BitVec.ofNat 4 bs.length)).getLsbD 4 then
    if f.b1 ∈ [0x43, 0x44, 0x47, 0x48, 0x4B, 0x4C, 0x4E] then (f.b4, .value)
    else if f.b1 = 0x40 then (f.b4, .nakCode)
    else if f.b1 = 0x41 then (0x01, .ack)
    else (0x00, .noReply)
  else (0x00, .noReply)

/-- The decoded fields and DSTAT after a decode of the bytes `bs` (`41_codec.md` rule R84). -/
def State.decoded (bs : List Byte) (s : State) : State :=
  { s with
    decOpc := (fillBuffer bs).b1, decFb := (fillBuffer bs).b2, decP1 := (fillBuffer bs).b3,
    decP2 := (fillBuffer bs).b4, decCkh := (fillBuffer bs).b5, decCkl := (fillBuffer bs).b6,
    dstat := dstatOf (fillBuffer bs) (BitVec.ofNat 4 bs.length) }

/-- `n` clocks of the transmitter. -/
def txTicks (bc : Nat) : Nat → Line → Line
  | 0, l => l
  | n + 1, l => txTick bc (txTicks bc n l)

/-- The receiver driven by a list of RX levels, one a clock: where it ends and the reports it made, in order, the
clocks without one left out. -/
def rxTicks (bc : Nat) : List Bool → Line → Line × List RxReport
  | [], l => (l, [])
  | rx :: more, l =>
    match rxTick bc rx l with
    | (l', .nothing) => rxTicks bc more l'
    | (l', r) => ((rxTicks bc more l').1, r :: (rxTicks bc more l').2)

/-- The levels of the RX line while the ten bits of a character last `bc` clocks each (`42_uart.md` rule R100). -/
def characterLevels (bc : Nat) (b : Byte) : List Bool :=
  (List.range 10).flatMap fun i => List.replicate bc ((characterBits b).getLsbD i)

end Sys2Proof.Machine
end

