-- ==== Sys2Proof/Certificates/Slice0/Obligations.lean ====
section
/-!
DEFINITION. Certificates/Slice0/Obligations.lean: the statements for the provers.

A statement that says more than a numbered rule of the spec, or rests on a choice of the model, says so in its
docstring and names the log entry.
-/

open Sys2Proof Sys2Proof.Machine

/-! Encoding. -/

/-- Decoding and encoding agree in both directions: bytes decode to an instruction exactly if they are its encoding.
So no bit of an encoding is dropped, and no two encodings overlap. -/
def Obligations.DecodeIsInverseOfEncode : Prop :=
  ∀ (bs : List Byte) (i : Instr), decode bs = .ok i ↔ encode i = bs

/-- One written-out word for each family decodes to its instruction (`95_test_vectors.md` E12, E19, E26, E27, E28;
`30_encoding.md` rule R68). -/
def Obligations.WrittenWordsDecode : Prop :=
  decode [0x7E, 0x0D, 0x01, 0x00, 0x00, 0xFF, 0xF2, 0xEF] = .ok (.play ⟨0x01, 0x00, 0x00, 0xFF, 0xF2⟩) ∧
  decode [0x7E, 0x43, 0x01, 0x00, 0x00, 0xFF, 0xBC, 0xEF] = .ok (.queryVolume ⟨0x01, 0x00, 0x00, 0xFF, 0xBC⟩) ∧
  decode [0x7E, 0x41, 0x00, 0x00, 0x00, 0xFF, 0xBF, 0xEF] = .ok (.ack ⟨0x00, 0x00, 0x00, 0xFF, 0xBF⟩) ∧
  decode [0x7E, 0x40, 0x01, 0x01, 0x01, 0xFF, 0xBD, 0xEF] = .ok (.nak ⟨0x01, 0x01, 0x01, 0xFF, 0xBD⟩) ∧
  decode [0x7E, 0x3A, 0x00, 0x00, 0x01, 0xFF, 0xC5, 0xEF] = .ok (.sourceInsert ⟨0x00, 0x00, 0x01, 0xFF, 0xC5⟩) ∧
  decode [0x01] = .ok .enc ∧ decode [0x06] = .ok .xchg ∧ decode [0x00] = .error (.unknownCommand 0x00)

/-- Between the markers exactly the 32 opcode values of rule R64 are instructions; any other is refused as unlisted
(`30_encoding.md` rules R64, R65). -/
def Obligations.OnlyListedOpcodesDecode : Prop :=
  ∀ f : Buf8, f.b0 = 0x7E → f.b7 = 0xEF →
    (f.b1 ∈ ([0x01, 0x02, 0x03, 0x04, 0x05, 0x06, 0x07, 0x08, 0x09, 0x0A, 0x0C, 0x0D, 0x0E, 0x0F, 0x11, 0x16, 0x18,
        0x19, 0x3A, 0x3B, 0x3C, 0x3D, 0x3F, 0x40, 0x41, 0x43, 0x44, 0x47, 0x48, 0x4B, 0x4C, 0x4E] : List Byte) →
      ∃ i, decodeFrame f = .ok i) ∧
    (f.b1 ∉ ([0x01, 0x02, 0x03, 0x04, 0x05, 0x06, 0x07, 0x08, 0x09, 0x0A, 0x0C, 0x0D, 0x0E, 0x0F, 0x11, 0x16, 0x18,
        0x19, 0x3A, 0x3B, 0x3C, 0x3D, 0x3F, 0x40, 0x41, 0x43, 0x44, 0x47, 0x48, 0x4B, 0x4C, 0x4E] : List Byte) →
      decodeFrame f = .error (.unlistedOpcode f.b1))

/-! The codec. -/

/-- The checksum is the 16-bit negation of the payload sum: 0x0000 for sum 0, `0x10000 - sum` for sums 1 to 1020; the
subtraction never borrows (`41_codec.md` rule R81). -/
def Obligations.ChecksumOfEverySum : Prop :=
  ∀ o f p1 p2 : Byte,
    payloadSum o f p1 p2 ≤ 0x3FC ∧ payloadSum o f p1 p2 ≤ 0xFFFF ∧
    (cksum o f p1 p2).toNat = (0xFFFF - payloadSum o f p1 p2 + 1) % 0x10000 ∧
    (payloadSum o f p1 p2 = 0 → cksum o f p1 p2 = 0x0000) ∧
    (1 ≤ payloadSum o f p1 p2 →
      (cksum o f p1 p2).toNat = 0x10000 - payloadSum o f p1 p2 ∧ 0xFC04 ≤ (cksum o f p1 p2).toNat)

/-- Three consequences (`41_codec.md` rule R82): a 16-bit value is the checksum exactly if it sums with the payload to
zero; its high byte is 0x00 only for four zero bytes and else 0xFC to 0xFF; equal sums have equal checksums. -/
def Obligations.ChecksumLaws : Prop :=
  ∀ o f p1 p2 : Byte,
    (∀ ck : BitVec 16, ck = cksum o f p1 p2 ↔ BitVec.ofNat 16 (payloadSum o f p1 p2) + ck = 0) ∧
    (highByte (cksum o f p1 p2) = 0x00 ↔ o = 0 ∧ f = 0 ∧ p1 = 0 ∧ p2 = 0) ∧
    (highByte (cksum o f p1 p2) ∈ ([0x00, 0xFC, 0xFD, 0xFE, 0xFF] : List Byte)) ∧
    ∀ o' f' q1 q2 : Byte, payloadSum o f p1 p2 = payloadSum o' f' q1 q2 → cksum o f p1 p2 = cksum o' f' q1 q2

/-- ENC while idle writes `TXBUF` with the request frame of the operand registers and changes nothing else: markers
and operands unchanged, the checksum split big-endian; it is done in the step of the CMD write, with PHASE still IDLE;
the corner cases and the worked example of rule R85 (`41_codec.md` rules R85, R88). This is ENC's completion. That a
step takes the turn `nextTurn` names, and what it leaves of the schedule, is the model's (log entry 1). -/
def Obligations.EncBuildsRequestFrame : Prop :=
  (∀ s : State, s.phase = .idle →
    ∃ hi lo : Byte,
      hi ++ lo =
        BitVec.ofNat 16
          ((0xFFFF - (s.argOpc.toNat + s.argFb.toNat + s.argP1.toNat + s.argP2.toNat) + 1) % 0x10000) ∧
      exec .enc s =
        .next { s with txbuf := ⟨0x7E, s.argOpc, s.argFb, s.argP1, s.argP2, hi, lo, 0xEF⟩ } ∧
      (s.nextTurn = .hostWrite 0x00 0x01 →
        step s =
          .next { s.turnSpent with txbuf := ⟨0x7E, s.argOpc, s.argFb, s.argP1, s.argP2, hi, lo, 0xEF⟩ })) ∧
  mkFrame 0x00 0x00 0x00 0x00 = ⟨0x7E, 0x00, 0x00, 0x00, 0x00, 0x00, 0x00, 0xEF⟩ ∧
  mkFrame 0xFF 0xFF 0xFF 0xFF = ⟨0x7E, 0xFF, 0xFF, 0xFF, 0xFF, 0xFC, 0x04, 0xEF⟩ ∧
  mkFrame 0x0D 0x01 0x00 0x00 = ⟨0x7E, 0x0D, 0x01, 0x00, 0x00, 0xFF, 0xF2, 0xEF⟩

/-- DEC while idle writes the six field registers by fixed offset and DSTAT, whatever RXLEN is, and changes nothing
else (`41_codec.md` rule R86). This is DEC's completion. -/
def Obligations.DecWritesFieldsAndStatus : Prop :=
  ∀ s : State, s.phase = .idle →
    exec .dec s =
      .next { s with
        decOpc := s.rxbuf.b1, decFb := s.rxbuf.b2, decP1 := s.rxbuf.b3, decP2 := s.rxbuf.b4, decCkh := s.rxbuf.b5,
        decCkl := s.rxbuf.b6
        dstat :=
          (if s.rxbuf.b0 = 0x7E ∧ s.rxbuf.b7 = 0xEF ∧ s.rxlen = 8 ∧
              s.rxbuf.b5 ++ s.rxbuf.b6 = cksum s.rxbuf.b1 s.rxbuf.b2 s.rxbuf.b3 s.rxbuf.b4 then 0b10000 else 0) |||
          (if s.rxbuf.b5 ++ s.rxbuf.b6 = cksum s.rxbuf.b1 s.rxbuf.b2 s.rxbuf.b3 s.rxbuf.b4 then 0b01000 else 0) |||
          (if s.rxlen = 8 then 0b00100 else 0) ||| (if s.rxbuf.b7 = 0xEF then 0b00010 else 0) |||
          (if s.rxbuf.b0 = 0x7E then 0b00001 else 0) }

/-- Round trip (`41_codec.md` rule R87): the decoder recovers all four operands and the checksum of any frame the
encoder builds, and finds it valid. -/
def Obligations.DecodeRecoversEncodedFrame : Prop :=
  ∀ (s : State) (o f p1 p2 : Byte), s.phase = .idle → s.rxbuf = mkFrame o f p1 p2 → s.rxlen = 8 →
    ∃ t, exec .dec s = .next t ∧ t.decOpc = o ∧ t.decFb = f ∧ t.decP1 = p1 ∧ t.decP2 = p2 ∧
      t.decCkh ++ t.decCkl = cksum o f p1 p2 ∧ t.dstat = 0b11111

/-! The block operations, issue and run. -/

/-- The issue steps while idle: each sets OP and PHASE, TXF clears IDX, RXF begins a frame read, and nothing else
changes (`43_exchange.md` rule R120, rows 3 to 7). This is the completion of the five multi-step operations. -/
def Obligations.IssueStepsBeginOperations : Prop :=
  ∀ s : State, s.phase = .idle →
    exec .txf s = .next { s with op := 0x3, phase := .tx, idx := 0 } ∧
    exec .rxf s = .next { s with op := 0x4, phase := .rx, rxbuf := Buf8.zero, rxlen := 0, tmo := false } ∧
    exec .drn s = .next { s with op := 0x5, phase := .drainTest } ∧
    exec .xchg s = .next { s with op := 0x6, phase := .drainTest } ∧
    exec .flush s = .next { s with op := 0x7, phase := .flushWait }

/-- TXF, whole (`42_uart.md` rule R92): issued while idle it appends the eight bytes of `TXBUF`, offset 0 first, one
in each of eight SEQ steps; BUSY is 1 from the issue step until the eighth; nothing else but IDX and OP changes. The
schedule (`agenda`, `later`) is the model's (log entry 1). -/
def Obligations.TxfSendsBufferInOrder : Prop :=
  ∀ s : State, s.phase = .idle → s.level = .byteLevel → s.agenda = [.hostWrite 0x00 0x03] →
    s.later = .quiet →
    Sys2Proof.core.run 9 s =
      .next { s with op := 0, idx := 8, txwire := s.txwire ++ s.txbuf.toList, agenda := [] } ∧
    ∀ k, k < 8 → ∃ t, Sys2Proof.core.run (k + 1) s = .next t ∧ t.busy = true ∧
      t.txwire = s.txwire ++ s.txbuf.toList.take k

/-- FLUSH at byte level completes at its next step and changes no state but PHASE and OP (`42_uart.md` rule R98); in
FLUSH_WAIT at line level it waits until the holding register is empty and no character is in progress. The schedule
(`agenda`, `later`) is the model's (log entry 1). -/
def Obligations.FlushWaitsForTransmitter : Prop :=
  (∀ s : State, s.phase = .idle → s.level = .byteLevel → s.agenda = [.hostWrite 0x00 0x07] → s.later = .quiet →
    (∃ t, Sys2Proof.core.run 1 s = .next t ∧ t.busy = true) ∧
    Sys2Proof.core.run 2 s = .next { s with op := 0, agenda := [] }) ∧
  (∀ s : State, s.phase = .flushWait → s.level = .lineLevel →
    (s.line.txHold = none ∧ s.line.txBits = 0 → seqStep s = .next { s with phase := .idle, op := 0 }) ∧
    (¬(s.line.txHold = none ∧ s.line.txBits = 0) → seqStep s = .next s))

/-- RXF, whole, when a byte ends the read (`42_uart.md` rules R95, R97; `20_memory.md` rule R43): the oldest bytes of
RXQ up to the first 0xEF or the eighth are stored, the terminator with them, the rest stays queued, and the frame is
not decoded. The schedule (`agenda`, `later`) is the model's (log entry 1). -/
def Obligations.RxfReadsOneFrame : Prop :=
  ∀ (s : State) (f rest : List Byte), s.phase = .idle → s.level = .byteLevel → s.agenda = [.hostWrite 0x00 0x04] →
    s.later = .quiet → s.rxq = f ++ rest → endedFrame f →
    Sys2Proof.core.run (1 + f.length) s =
      .next { s with
        op := 0, rxbuf := fillBuffer f, rxlen := BitVec.ofNat 4 f.length, tmo := false, rxq := rest, agenda := [] }

/-- RXF when the queue runs dry and nothing arrives (`42_uart.md` rules R96, R97): the read ends by Timeout with TMO
set, and the offsets not reached read 0x00. The schedule (`agenda`, `later`) is the model's (log entry 1). -/
def Obligations.RxfEndsByTimeout : Prop :=
  ∀ s : State, s.phase = .idle → s.level = .byteLevel → s.agenda = [.hostWrite 0x00 0x04] →
    s.later = .quiet → partialFrame s.rxq →
    Sys2Proof.core.run (2 + s.rxq.length) s =
      .next { s with
        op := 0, rxbuf := fillBuffer s.rxq, rxlen := BitVec.ofNat 4 s.rxq.length, tmo := true, rxq := []
        agenda := [] }

/-- DRN over a queue of whole frames (`43_exchange.md` rules R111, R112, R113): one event record for each frame, in
arrival order, the queue ends empty, the registers describe the last frame drained, and nothing is transmitted or
interpreted. The schedule (`agenda`, `later`) is the model's (log entry 1). -/
def Obligations.DrnReportsEveryQueuedFrame : Prop :=
  ∀ (s : State) (frames : List (List Byte)), s.phase = .idle → s.level = .byteLevel →
    s.agenda = [.hostWrite 0x00 0x05] → s.later = .quiet → (∀ f ∈ frames, endedFrame f) → s.rxq = frames.flatten →
    ∃ t, Sys2Proof.core.run (2 + frames.length + frames.flatten.length) s = .next t ∧
      t.phase = .idle ∧ t.op = 0 ∧ t.rxq = [] ∧ t.evlog = s.evlog ++ frames.map (drainedEvent s.strict) ∧
      t.txwire = s.txwire ∧ t.txbuf = s.txbuf ∧ t.result = s.result ∧ t.rkind = s.rkind ∧ t.err = s.err ∧
      (frames = [] → t = { s with op := 0, agenda := [] }) ∧
      ∀ f, frames.getLast? = some f →
        t.rxbuf = fillBuffer f ∧ t.rxlen = BitVec.ofNat 4 f.length ∧ t.tmo = false ∧ t.decOpc = (fillBuffer f).b1 ∧
        t.decFb = (fillBuffer f).b2 ∧ t.decP1 = (fillBuffer f).b3 ∧ t.decP2 = (fillBuffer f).b4 ∧
        t.decCkh = (fillBuffer f).b5 ∧ t.decCkl = (fillBuffer f).b6 ∧ t.dstat = dstatOf (fillBuffer f) (BitVec.ofNat 4 f.length)

/-- DRN over a partial frame with nothing following (`43_exchange.md` rules R111, R113, corner case): one turn ended
by Timeout, one event record from the bytes that came, missing bytes reading 0x00. The schedule (`agenda`, `later`) is
the model's (log entry 1). -/
def Obligations.DrnReportsPartialFrame : Prop :=
  ∀ s : State, s.phase = .idle → s.level = .byteLevel → s.agenda = [.hostWrite 0x00 0x05] →
    s.later = .quiet → s.rxq ≠ [] → partialFrame s.rxq →
    Sys2Proof.core.run (4 + s.rxq.length) s =
      .next (State.decoded s.rxq { s with
        op := 0, rxbuf := fillBuffer s.rxq, rxlen := BitVec.ofNat 4 s.rxq.length, tmo := true, rxq := []
        evlog := s.evlog ++ [drainedEvent s.strict s.rxq], agenda := [] })

/-- XCHG with an empty queue and a reply that a byte ends (`43_exchange.md` rules R114, R115, R116): the request frame
of the operands is sent whole, the reply's bytes arrive after it, the read takes them, and RESULT and RKIND follow the
reply's opcode. Everything XCHG does is in the one equation. The schedule (`agenda`, `later`) is the model's (log
entry 1). -/
def Obligations.XchgTurnsReplyIntoResult : Prop :=
  ∀ (s : State) (f : List Byte), s.phase = .idle → s.level = .byteLevel → s.rxq = [] → endedFrame f →
    s.agenda = .hostWrite 0x00 0x06 :: (List.replicate 9 .seq ++ f.map .arrive) → s.later = .quiet →
    Sys2Proof.core.run (10 + 2 * f.length) s =
      .next (State.decoded f { s with
        op := 0, idx := 8
        txbuf := mkFrame s.argOpc s.argFb s.argP1 s.argP2
        txwire := s.txwire ++ (mkFrame s.argOpc s.argFb s.argP1 s.argP2).toList
        rxbuf := fillBuffer f, rxlen := BitVec.ofNat 4 f.length, tmo := false
        result := (replyResult s.strict f).1, rkind := (replyResult s.strict f).2, agenda := [] })

/-- XCHG with a reply cut by the timeout, a silent device included (`43_exchange.md` rules R115, R116, R117): TMO is
set and the result follows the opcode byte if it came, else it is 0x00 with RKIND = NONE. The schedule (`agenda`,
`later`) is the model's (log entry 1). -/
def Obligations.XchgTimesOut : Prop :=
  ∀ (s : State) (f : List Byte), s.phase = .idle → s.level = .byteLevel → s.rxq = [] → partialFrame f →
    s.agenda = .hostWrite 0x00 0x06 :: (List.replicate 9 .seq ++ f.map .arrive) → s.later = .quiet →
    Sys2Proof.core.run (11 + 2 * f.length) s =
      .next (State.decoded f { s with
        op := 0, idx := 8
        txbuf := mkFrame s.argOpc s.argFb s.argP1 s.argP2
        txwire := s.txwire ++ (mkFrame s.argOpc s.argFb s.argP1 s.argP2).toList
        rxbuf := fillBuffer f, rxlen := BitVec.ofNat 4 f.length, tmo := true
        result := (replyResult s.strict f).1, rkind := (replyResult s.strict f).2, agenda := [] })

/-- XCHG with frames pending (`43_exchange.md` rules R111, R121; `20_memory.md` rule R51; `70_reset_and_hazards.md` rule
R258; `95_test_vectors.md` S7). Every queued frame is drained and its record stands in EVLOG, the queue empty, before
TXBUF is written and before the first byte of the request goes out; none of the frames is taken for the reply; the
request is then sent whole. While bytes arrive as fast as they are consumed the drain goes on for ever and nothing is
sent; a drain that still finds bytes is left by no turn but `rst`. The schedule (`agenda`, `later`) is the model's (log
entry 1). -/
def Obligations.XchgDrainsBeforeItSends : Prop :=
  (∀ (s : State) (frames : List (List Byte)), s.phase = .idle → s.level = .byteLevel →
    (∀ f ∈ frames, endedFrame f) → s.rxq = frames.flatten → s.agenda = [.hostWrite 0x00 0x06] → s.later = .quiet →
    (∀ k, k ≤ 1 + frames.length + frames.flatten.length →
      ∃ t, Sys2Proof.core.run k s = .next t ∧ t.txwire = s.txwire ∧ t.txbuf = s.txbuf ∧ t.result = s.result ∧
        t.rkind = s.rkind) ∧
    (∃ t, Sys2Proof.core.run (1 + frames.length + frames.flatten.length) s = .next t ∧ t.phase = .drainTest ∧
      t.rxq = [] ∧ t.evlog = s.evlog ++ frames.map (drainedEvent s.strict)) ∧
    (∃ t, Sys2Proof.core.run (2 + frames.length + frames.flatten.length) s = .next t ∧ t.phase = .tx ∧ t.rxq = [] ∧
      t.evlog = s.evlog ++ frames.map (drainedEvent s.strict) ∧
      t.txbuf = mkFrame s.argOpc s.argFb s.argP1 s.argP2 ∧ t.txwire = s.txwire ∧ t.result = s.result ∧
      t.rkind = s.rkind) ∧
    ∃ t, Sys2Proof.core.run (2 + frames.length + frames.flatten.length + 8) s = .next t ∧
      t.evlog = s.evlog ++ frames.map (drainedEvent s.strict) ∧
      t.txwire = s.txwire ++ (mkFrame s.argOpc s.argFb s.argP1 s.argP2).toList ∧
      t.phase = .rx ∧ t.op = 0x6 ∧ t.rxq = [] ∧ t.rxbuf = Buf8.zero ∧ t.rxlen = 0 ∧ t.result = s.result ∧
      t.rkind = s.rkind) ∧
  (∀ (s : State) (b : Byte) (bs : List Byte) (k : Nat), s.level = .byteLevel →
    s.phase = .drainTest ∨ s.phase = .drainRx → s.agenda = [] →
    s.later = .again (.arrive b) (.seq :: bs.flatMap fun c => [.arrive c, .seq]) →
    ∃ t, Sys2Proof.core.run k s = .next t ∧ (t.phase = .drainTest ∨ t.phase = .drainRx) ∧ t.op = s.op ∧
      t.txwire = s.txwire) ∧
  (∀ s t : State, s.phase = .drainRx ∨ s.phase = .drainTest ∧ s.rxq ≠ [] → s.nextTurn ≠ .rst → step s = .next t →
    (t.phase = .drainTest ∨ t.phase = .drainRx) ∧ t.op = s.op ∧ t.txwire = s.txwire)

/-! The frame opcodes. -/

/-- The 18 control opcodes (`44_control_opcodes.md` rule R148). Completion and frame: while the block is idle, and at
XCHG's encode point, the opcode is built into the request frame; as XCHG's reply it gives RESULT = 0x00 and RKIND =
NONE; drained it is reported as EV_OTHER. Where a frame opcode acts is the model's reading (log entry 2), and so is when
the event port's strobe stands (log entry 20); a frame with 0xEF among its free bytes taken as received whole is log
entry 29. -/
def Obligations.ControlOpcodes : Prop :=
  ∀ (p : Payload) (o : Byte) (i : Instr),
    (o, i) ∈ [((0x01 : Byte), Instr.next p), (0x02, .previous p), (0x03, .playTrackNum p), (0x04, .volumePlus p),
      (0x05, .volumeMinus p), (0x06, .volumeSet p), (0x07, .setEq p), (0x08, .repeatTrack p), (0x09, .playSource p),
      (0x0A, .sleep p), (0x0C, .reset p), (0x0D, .play p), (0x0E, .pause p), (0x0F, .folderAndTrack p),
      (0x11, .continuous p), (0x16, .stop p), (0x18, .randomTrack p), (0x19, .singlePlay p)] →
    ∀ s : State,
      (s.phase = .idle → exec i s = .next { s with txbuf := mkFrame o p.fb p.p1 p.p2 }) ∧
      (s.phase = .drainTest → s.op = 0x6 → s.rxq = [] →
        exec i s = .next { s with txbuf := mkFrame o p.fb p.p1 p.p2, phase := .tx, idx := 0 }) ∧
      (s.phase = .rx → s.op = 0x6 →
        exec i s = .next (State.decoded (frameBytes o p).toList { s with
          rxbuf := frameBytes o p, rxlen := 8, result := 0x00, rkind := .noReply, phase := .idle, op := 0 })) ∧
      (s.phase = .drainRx →
        exec i s = .next (State.decoded (frameBytes o p).toList { s with
          rxbuf := frameBytes o p, rxlen := 8, phase := .drainTest
          evlog := s.evlog ++ [⟨.other, o, p.p2, dstatOf (frameBytes o p) 8⟩]
          line := strobe s.level ⟨.other, o, p.p2, dstatOf (frameBytes o p) 8⟩ s.line }))

/-- The seven query opcodes (`45_query_reply_notify_opcodes.md` rule R176). Completion and frame: a request like any
other; as XCHG's reply, if the frame is usable, RESULT is the reply's para2 and RKIND is VALUE; drained, EV_OTHER.
Where a frame opcode acts is the model's reading (log entry 2), and so is when the event port's strobe stands (log entry
20); a frame with 0xEF among its free bytes taken as received whole is log entry 29. -/
def Obligations.QueryOpcodes : Prop :=
  ∀ (p : Payload) (o : Byte) (i : Instr),
    (o, i) ∈ [((0x43 : Byte), Instr.queryVolume p), (0x44, .queryEq p), (0x47, .queryTracksUsb p),
      (0x48, .queryTracksUsd p), (0x4B, .queryCurTrackUsb p), (0x4C, .queryCurTrackUsd p),
      (0x4E, .queryTracksInFolder p)] →
    ∀ s : State,
      (s.phase = .idle → exec i s = .next { s with txbuf := mkFrame o p.fb p.p1 p.p2 }) ∧
      (s.phase = .drainTest → s.op = 0x6 → s.rxq = [] →
        exec i s = .next { s with txbuf := mkFrame o p.fb p.p1 p.p2, phase := .tx, idx := 0 }) ∧
      (s.phase = .rx → s.op = 0x6 → (s.strict = false ∨ frameValid (frameBytes o p) 8 = true) →
        exec i s = .next (State.decoded (frameBytes o p).toList { s with
          rxbuf := frameBytes o p, rxlen := 8, result := p.p2, rkind := .value, phase := .idle, op := 0 })) ∧
      (s.phase = .drainRx →
        exec i s = .next (State.decoded (frameBytes o p).toList { s with
          rxbuf := frameBytes o p, rxlen := 8, phase := .drainTest
          evlog := s.evlog ++ [⟨.other, o, p.p2, dstatOf (frameBytes o p) 8⟩]
          line := strobe s.level ⟨.other, o, p.p2, dstatOf (frameBytes o p) 8⟩ s.line }))

/-- ACK and NAK (`45_query_reply_notify_opcodes.md` rules R167, R168). Completion and frame: as XCHG's reply, if the
frame is usable, ACK gives 0x01 and NAK gives the reply's para2 whatever it is; drained, EV_OTHER; as an operand each
is encoded like any byte. Where a frame opcode acts is the model's reading (log entry 2), and so is when the event port's
strobe stands (log entry 20); a frame with 0xEF among its free bytes taken as received whole is log entry 29. -/
def Obligations.AckAndNakOpcodes : Prop :=
  ∀ (p : Payload) (o : Byte) (i : Instr) (r : Byte) (k : RKind),
    (o, i, r, k) ∈ [((0x41 : Byte), Instr.ack p, (0x01 : Byte), RKind.ack), (0x40, .nak p, p.p2, .nakCode)] →
    ∀ s : State,
      (s.phase = .idle → exec i s = .next { s with txbuf := mkFrame o p.fb p.p1 p.p2 }) ∧
      (s.phase = .rx → s.op = 0x6 → (s.strict = false ∨ frameValid (frameBytes o p) 8 = true) →
        exec i s = .next (State.decoded (frameBytes o p).toList { s with
          rxbuf := frameBytes o p, rxlen := 8, result := r, rkind := k, phase := .idle, op := 0 })) ∧
      (s.phase = .drainRx →
        exec i s = .next (State.decoded (frameBytes o p).toList { s with
          rxbuf := frameBytes o p, rxlen := 8, phase := .drainTest
          evlog := s.evlog ++ [⟨.other, o, p.p2, dstatOf (frameBytes o p) 8⟩]
          line := strobe s.level ⟨.other, o, p.p2, dstatOf (frameBytes o p) 8⟩ s.line }))

/-- The five notification opcodes (`45_query_reply_notify_opcodes.md` rules R170 to R175). Completion and frame:
drained, if the frame is usable, each emits its event, the sub-case read from para2; as XCHG's reply it gives the falsy
result; as an operand of ENC it encodes like any byte. Where a frame opcode acts is the model's reading (log entry
2), and so is when the event port's strobe stands (log entry 20); a frame with 0xEF among its free bytes taken as
received whole is log entry 29. -/
def Obligations.NotificationOpcodes : Prop :=
  ∀ (p : Payload) (o : Byte) (i : Instr) (c : EvClass),
    (o, i, c) ∈ [
      ((0x3A : Byte), Instr.sourceInsert p,
        if p.p2 = 1 then EvClass.insertUsb else if p.p2 = 2 then .insertCard else .insertUnk),
      (0x3B, .sourceRemoved p, if p.p2 = 1 then .removeUsb else if p.p2 = 2 then .removeCard else .removeUnk),
      (0x3C, .usbDone p, .usbDone), (0x3D, .usdDone p, .cardDone),
      (0x3F, .startup p,
        if p.p2 = Config.startup.none then .startupNone else if p.p2 = Config.startup.usb then .startupUsb
        else if p.p2 = Config.startup.card then .startupCard else if p.p2 = Config.startup.both then .startupBoth
        else .startupUnk)] →
    ∀ s : State,
      (s.phase = .idle → exec i s = .next { s with txbuf := mkFrame o p.fb p.p1 p.p2 }) ∧
      (s.phase = .drainRx → (s.strict = false ∨ frameValid (frameBytes o p) 8 = true) →
        exec i s = .next (State.decoded (frameBytes o p).toList { s with
          rxbuf := frameBytes o p, rxlen := 8, phase := .drainTest
          evlog := s.evlog ++ [⟨c, o, p.p2, dstatOf (frameBytes o p) 8⟩]
          line := strobe s.level ⟨c, o, p.p2, dstatOf (frameBytes o p) 8⟩ s.line })) ∧
      (s.phase = .rx → s.op = 0x6 →
        exec i s = .next (State.decoded (frameBytes o p).toList { s with
          rxbuf := frameBytes o p, rxlen := 8, result := 0x00, rkind := .noReply, phase := .idle, op := 0 }))

/-- A frame opcode of any kind at the points the four statements above leave out. At XCHG's encode point it is built into
the request frame and the TX phase begins; at the end of an RXF read it is stored and not decoded; in a phase in which
the block meets no frame nothing changes. Where a frame opcode acts is the model's reading (log entry 2); a frame with
0xEF among its free bytes taken as received whole is log entry 29. -/
def Obligations.FrameOpcodesElsewhere : Prop :=
  ∀ (i : Instr) (o : Byte) (p : Payload), encode i = (frameBytes o p).toList → ∀ s : State,
    (s.phase = .drainTest → s.op = 0x6 → s.rxq = [] →
      exec i s = .next { s with txbuf := mkFrame o p.fb p.p1 p.p2, phase := .tx, idx := 0 }) ∧
    (s.phase = .rx → s.op ≠ 0x6 →
      exec i s = .next { s with rxbuf := frameBytes o p, rxlen := 8, phase := .idle, op := 0 }) ∧
    (s.phase = .tx ∨ s.phase = .flushWait ∨ s.phase = .drainTest ∧ ¬(s.op = 0x6 ∧ s.rxq = []) →
      exec i s = .next s)

/-- However a frame read ends, and whether or not the bytes are an instruction of the table, what follows is decided by
the decoded opcode byte alone: Decode then Classify in the drain phase, Decode then Interpret in XCHG's reply read,
neither in RXF (`43_exchange.md` rules R111, R115, R120). The per-opcode meanings agree with the two branches. -/
def Obligations.FrameEndFollowsOpcodeByte : Prop :=
  ∀ s : State,
    (s.phase = .drainRx → frameReadEnds s = .next { classify (decodeStep s) with phase := .drainTest }) ∧
    (s.phase = .rx → s.op = 0x6 → frameReadEnds s = .next (toIdle (interpret (decodeStep s)))) ∧
    (s.phase = .rx → s.op ≠ 0x6 → frameReadEnds s = .next (toIdle s))

/-- The interpret step (`43_exchange.md` rule R116). -/
def Obligations.InterpretStepArms : Prop :=
  ∀ s : State,
    interpret s =
      if (s.strict = false ∨ s.dstat.getLsbD 4 = true) ∧
          (s.decOpc ∈ ([0x43, 0x44, 0x47, 0x48, 0x4B, 0x4C, 0x4E] : List Byte) ∨ s.decOpc = 0x40) then
        { s with result := s.decP2, rkind := if s.decOpc = 0x40 then .nakCode else .value }
      else if (s.strict = false ∨ s.dstat.getLsbD 4 = true) ∧ s.decOpc = 0x41 then
        { s with result := 0x01, rkind := .ack }
      else { s with result := 0x00, rkind := .noReply }

/-- The classify step writes EVLOG, one record with the class of the opcode and para2, or EV_OTHER, with the codes of
rule R28, and at line level the event port's strobe (log entry 20), and nothing else (`43_exchange.md` rule R112;
`10_state.md` rule R28). -/
def Obligations.ClassifyStepBranches : Prop :=
  ∀ s : State,
    ∃ c : EvClass,
      classify s = { s with
        evlog := s.evlog ++ [⟨c, s.decOpc, s.decP2, s.dstat⟩]
        line := strobe s.level ⟨c, s.decOpc, s.decP2, s.dstat⟩ s.line } ∧
      c.code =
        if s.strict = false ∨ s.dstat.getLsbD 4 = true then
          if s.decOpc = 0x3A then (if s.decP2 = 1 then 1 else if s.decP2 = 2 then 2 else 3)
          else if s.decOpc = 0x3B then (if s.decP2 = 1 then 4 else if s.decP2 = 2 then 5 else 6)
          else if s.decOpc = 0x3C then 7
          else if s.decOpc = 0x3D then 8
          else if s.decOpc = 0x3F then
            (if s.decP2 = Config.startup.none then 9 else if s.decP2 = Config.startup.usb then 10
             else if s.decP2 = Config.startup.card then 11 else if s.decP2 = Config.startup.both then 12 else 13)
          else 0
        else 0

/-- In compat mode the result of a reply depends on bytes 1 and 4 of what was read and on nothing else in the state:
not the markers, the length, the checksum, TMO, the other bytes, nor the request (`43_exchange.md` rule R116). -/
def Obligations.CompatResultDependsOnTwoBytes : Prop :=
  ∀ s s' t t' : State, s.strict = false → s'.strict = false → s.phase = .rx → s'.phase = .rx → s.op = 0x6 →
    s'.op = 0x6 → s.rxbuf.b1 = s'.rxbuf.b1 → s.rxbuf.b4 = s'.rxbuf.b4 → frameReadEnds s = .next t →
    frameReadEnds s' = .next t' → t.result = t'.result ∧ t.rkind = t'.rkind

/-- In strict mode an invalid frame is unrecognised: RESULT = 0x00 and RKIND = NONE as a reply, EV_OTHER when drained
(`10_state.md` rule R22; `60_exceptions.md` rule R222). -/
def Obligations.StrictModeRejectsInvalidFrames : Prop :=
  ∀ s t : State, s.strict = true →
    ¬(s.rxbuf.b0 = 0x7E ∧ s.rxbuf.b7 = 0xEF ∧ s.rxlen = 8 ∧
      s.rxbuf.b5 ++ s.rxbuf.b6 = cksum s.rxbuf.b1 s.rxbuf.b2 s.rxbuf.b3 s.rxbuf.b4) →
    frameReadEnds s = .next t →
    (s.phase = .rx → s.op = 0x6 → t.result = 0x00 ∧ t.rkind = .noReply) ∧
    (s.phase = .drainRx →
      t.evlog = s.evlog ++ [⟨.other, s.rxbuf.b1, s.rxbuf.b4, dstatOf s.rxbuf s.rxlen⟩])

/-! The host interface. -/

/-- A step runs the decoded instruction (in the model's terms, log entries 1, 2, 12): a host write of a command code to
CMD runs that block operation; a SEQ step whose byte completes a whole frame of the table runs that frame opcode; a SEQ
step at XCHG's encode point runs the request opcode the operand registers hold. Around `exec` a step only takes the turn
off the model's own schedule, the first of `agenda` where there is one. (A read in which a 0xEF is already stored is no run's:
log entry 29.) -/
def Obligations.StepRunsDecodedInstruction : Prop :=
  (∀ (s : State) (v : Byte) (i : Instr), s.nextTurn = .hostWrite 0x00 v → decode [v] = .ok i →
    step s = exec i s.turnSpent) ∧
  (∀ (s : State) (b : Byte) (q : List Byte) (i : Instr), s.nextTurn = .seq → s.phase = .rx ∨ s.phase = .drainRx →
    s.rxq = b :: q → s.rxlen = 7 → decode (s.rxbuf.set 7 b).toList = .ok i →
    step s = exec i { s.turnSpent with rxq := q, rxbuf := s.rxbuf.set 7 b, rxlen := 8 }) ∧
  (∀ (s : State) (i : Instr), s.nextTurn = .seq → s.phase = .drainTest → s.op = 0x6 → s.rxq = [] →
    decode (mkFrame s.argOpc s.argFb s.argP1 s.argP2).toList = .ok i → step s = exec i s.turnSpent) ∧
  (∀ s : State, s.turnSpent = { s with agenda := s.turnSpent.agenda, later := s.turnSpent.later }) ∧
  (∀ (s : State) (t : Turn) (ts : List Turn), s.agenda = t :: ts →
    s.nextTurn = t ∧ s.turnSpent = { s with agenda := ts })

/-- A word placed by `withFetchWord` is the next instruction run: the table's decoding of it, in the state left once its
bytes are fetched (log entry 12, and log entry 29 for a frame with 0xEF among its free bytes). -/
def Obligations.PlacedWordRunsNext : Prop :=
  ∀ (s : State) (w : Nat) (i : Instr),
    (decodeTableWord 8 w = some i → step (s.withFetchWord 8 w) = exec i s) ∧
    (decodeTableWord 64 w = some i →
      ∃ t, step (s.withFetchWord 64 w) = exec i t ∧ t.rxq = s.rxq ∧ t.agenda = s.agenda ∧ t.later = s.later ∧
        t.rxlen = 8 ∧ t.rxbuf.toList = encode i ∧ (t.phase = .rx ∨ t.phase = .drainRx))

/-- CMD (`10_state.md` rule R21): while idle, 0x01 to 0x07 issue the seven operations and any other value only sets
CMDERR; while BUSY every value only sets CMDERR; CMD reads 0x00. The spec advises a model to refuse the BUSY case; the
model does what the rule gives the hardware (log entry 5). -/
def Obligations.CommandRegisterIssues : Prop :=
  ∀ (s : State) (v : Byte),
    (s.phase ≠ .idle → hostWrite 0x00 v s = .next { s with err := s.err ||| 0b100 }) ∧
    (s.phase = .idle →
      hostWrite 0x00 v s =
        if v = 0x01 then exec .enc s else if v = 0x02 then exec .dec s else if v = 0x03 then exec .txf s
        else if v = 0x04 then exec .rxf s else if v = 0x05 then exec .drn s else if v = 0x06 then exec .xchg s
        else if v = 0x07 then exec .flush s else .next { s with err := s.err ||| 0b100 }) ∧
    hostRead 0x00 s = .next { s with hostData := 0x00 }

/-- Writes that are ignored without a flag (`10_state.md` rules R20, R30): while BUSY every write but those to CMD and
ERR; at any time a write to a read-only or reserved register. -/
def Obligations.IgnoredWrites : Prop :=
  ∀ (s : State) (n : Nat) (v : Byte),
    (s.busy = true → n < 0x40 → n ≠ 0x00 → n ≠ 0x07 → hostWrite n v s = .next s) ∧
    ((n = 0x06 ∨ (0x08 ≤ n ∧ n ≤ 0x0A) ∨ (0x0C ≤ n ∧ n ≤ 0x17) ∨ (0x20 ≤ n ∧ n ≤ 0x3F)) →
      hostWrite n v s = .next s)

/-- While idle a writable register takes the value (CTRL bit 0, RXLEN bits 3:0) and reads it back, and no other register
of the map reads differently (`10_state.md` rules R20, R22, R30). -/
def Obligations.IdleWriteReadsBack : Prop :=
  ∀ (s : State) (n : Nat) (v : Byte), s.busy = false →
    n ∈ [0x01, 0x02, 0x03, 0x04, 0x05, 0x0B, 0x18, 0x19, 0x1A, 0x1B, 0x1C, 0x1D, 0x1E, 0x1F] →
    ∃ t, hostWrite n v s = .next t ∧
      t.readReg (regAt n) = (if n = 0x05 then v &&& 0x01 else if n = 0x0B then v &&& 0x0F else v) ∧
      (∀ m, m < 0x40 → m ≠ n → t.readReg (regAt m) = s.readReg (regAt m)) ∧
      t.rxq = s.rxq ∧ t.txwire = s.txwire ∧ t.evlog = s.evlog ∧ t.phase = s.phase ∧ t.op = s.op

/-- What each register number reads as (`10_state.md` rule R20), and that a read has no side effect and is idempotent,
also while BUSY: only the host port's data changes (`20_memory.md` rule R47). The data port as a field is the model's
(log entry 3). -/
def Obligations.RegisterMapReads : Prop :=
  ∀ s : State,
    [0x00, 0x01, 0x02, 0x03, 0x04, 0x05, 0x06, 0x07, 0x08, 0x09, 0x0A, 0x0B, 0x0C].map (fun n => s.readReg (regAt n)) =
      [0x00, s.argOpc, s.argFb, s.argP1, s.argP2, if s.strict then 0x01 else 0x00,
       (if s.phase = .idle then 0x00 else 0x01) ||| (if s.tmo then 0x02 else 0x00), s.err.zeroExtend 8, s.result,
       (match s.rkind with | .noReply => 0x00 | .ack => 0x01 | .value => 0x02 | .nakCode => 0x03),
       BitVec.ofNat 8 (min s.rxq.length 255), s.rxlen.zeroExtend 8, s.dstat.zeroExtend 8] ∧
    (∀ n, (0x0D ≤ n ∧ n ≤ 0x0F) ∨ (0x26 ≤ n ∧ n ≤ 0x3F) → s.readReg (regAt n) = 0x00) ∧
    (∀ i, i < 8 → s.readReg (regAt (0x10 + i)) = s.txbuf.toList.getD i 0 ∧
      s.readReg (regAt (0x18 + i)) = s.rxbuf.toList.getD i 0) ∧
    [0x20, 0x21, 0x22, 0x23, 0x24, 0x25].map (fun n => s.readReg (regAt n)) =
      [s.decOpc, s.decFb, s.decP1, s.decP2, s.decCkh, s.decCkl] ∧
    ∀ n, n < 0x40 →
      hostRead n s = .next { s with hostData := s.readReg (regAt n) } ∧
      ∀ t, hostRead n s = .next t → hostRead n t = .next t

/-- ERR (`10_state.md` rule R24): a host write clears exactly the flags whose bits are 1, idle or BUSY, and an arrival
that overruns in the same step as a clearing leaves OVERRUN set. That a step takes the turn `nextTurn` names is the
model's (log entry 1). -/
def Obligations.ErrorFlagsWriteOneToClear : Prop :=
  ∀ (s : State) (v : Byte),
    (∃ t, hostWrite 0x07 v s = .next t ∧ t = { s with err := t.err } ∧
      ∀ i, i < 3 → t.err.getLsbD i = (s.err.getLsbD i && !v.getLsbD i)) ∧
    (∀ b : Byte, s.nextTurn = .arriveAndErrWrite b v → s.level = .byteLevel →
      Config.rxqDepth ≤ s.rxq.length →
      ∃ t, step s = .next t ∧ t.rxq = s.rxq ∧ t.err.getLsbD 0 = true ∧
        ∀ i, 0 < i → i < 3 → t.err.getLsbD i = (s.err.getLsbD i && !v.getLsbD i))

/-- A flag of ERR once set stays set through every step but a host write to ERR and a reset (`10_state.md` rule R24). -/
def Obligations.ErrorFlagsAreSticky : Prop :=
  ∀ (s t : State) (i : Nat), step s = .next t → s.err.getLsbD i = true →
    (∀ v, s.nextTurn ≠ .hostWrite 0x07 v) → (∀ b v, s.nextTurn ≠ .arriveAndErrWrite b v) →
    s.nextTurn ≠ .rst → t.err.getLsbD i = true

/-- After reset: PHASE = IDLE, OP = 0, IDX = 0, every register of the map reads 0x00, RXQ, TXWIRE and EVLOG are empty,
and the TX pin is high (`10_state.md` rule R31). -/
def Obligations.ResetValues : Prop :=
  State.reset.phase = .idle ∧ State.reset.op = 0 ∧ State.reset.idx = 0 ∧
  (∀ n, n < 0x40 → State.reset.readReg (regAt n) = 0x00) ∧ State.reset.rkind = .noReply ∧ State.reset.rxq = [] ∧
  State.reset.txwire = [] ∧ State.reset.evlog = [] ∧ State.reset.line.txPin = true

/-- `rst` in any state, also in the middle of an operation, puts every piece of the block's state at its reset value
(`70_reset_and_hazards.md` rule R250). The model's own three fields, the level and the remaining schedule, stay (log
entry 16). That `rst` is one turn at no clock is the model's choice (log entry 28), and so is the schedule (log entry
1). -/
def Obligations.RstFromAnyState : Prop :=
  ∀ s : State, s.nextTurn = .rst →
    step s = .next { State.reset with level := s.level, agenda := s.turnSpent.agenda, later := s.turnSpent.later }

/-- The only stop of the machine: a host access at a register number above 0x3F, which is not part of the block
(`93_implementation_defined.md` U16; log entry 6); every other step answers a next state. -/
def Obligations.OnlyOutsideRegistersRefused : Prop :=
  ∀ (s : State) (r : Refusal),
    step s = .refused r ↔
      ∃ n, 0x40 ≤ n ∧ r = .registerOutsideMap n ∧
        (s.nextTurn = .hostRead n ∨ ∃ v, s.nextTurn = .hostWrite n v)

/-! The link and the timer. -/

/-- `Arrive(b)`, in any phase: the byte becomes the newest of RXQ, or, with RXQ full, is dropped and OVERRUN is set;
nothing else changes (`42_uart.md` rule R93). That a step takes the turn `nextTurn` names is the model's (log entry
1). -/
def Obligations.ArriveQueuesOrDrops : Prop :=
  ∀ (s : State) (b : Byte), s.level = .byteLevel → s.nextTurn = .arrive b →
    (s.rxq.length < Config.rxqDepth → step s = .next { s.turnSpent with rxq := s.rxq ++ [b] }) ∧
    (Config.rxqDepth ≤ s.rxq.length → step s = .next { s.turnSpent with err := s.err ||| 0b001 })

/-- `Timeout` acts only in a frame read with RXQ empty, where it sets TMO and ends the read; a byte in the queue always
wins (`42_uart.md` rule R96; `60_exceptions.md` rule R229 (d)). A timer's turn elsewhere passes, and a step takes the
turn `nextTurn` names: both are the model's (log entry 1). -/
def Obligations.TimeoutOnlyWhileWaiting : Prop :=
  ∀ s : State, s.level = .byteLevel → s.nextTurn = .timeout →
    ((s.phase = .rx ∨ s.phase = .drainRx) ∧ s.rxq = [] →
      step s = frameReadEnds { s.turnSpent with tmo := true }) ∧
    (¬((s.phase = .rx ∨ s.phase = .drainRx) ∧ s.rxq = []) → step s = .next s.turnSpent)

/-- RXQ is first in, first out, and loses no byte but to a frame read and reset: every step leaves it, adds one newest
byte, or takes the oldest in a frame read, or is a reset (`20_memory.md` rule R49; `42_uart.md` rule R94). -/
def Obligations.ReceiveQueueIsFifo : Prop :=
  ∀ s t : State, step s = .next t →
    t.rxq = s.rxq ∨ (∃ b, t.rxq = s.rxq ++ [b]) ∨
    ((s.phase = .rx ∨ s.phase = .drainRx) ∧ ∃ b, s.rxq = b :: t.rxq) ∨
    (s.nextTurn = .rst ∧ t.rxq = [])

/-- TXWIRE only grows, one byte a step, only in the TX phase, and the byte is `TXBUF[IDX]`; a reset empties it
(`20_memory.md` rule R48; `42_uart.md` rules R90, R91). -/
def Obligations.WireOnlyGrowsInTxPhase : Prop :=
  ∀ s t : State, step s = .next t →
    t.txwire = s.txwire ∨
    (s.phase = .tx ∧ t.txwire = s.txwire ++ [s.txbuf.get s.idx.toNat] ∧ t.txbuf = s.txbuf) ∨
    (s.nextTurn = .rst ∧ t.txwire = [])

/-! Which step may write what. -/

/-- EVLOG grows by one record exactly when a drain turn ends, and only then; a reset empties it (`10_state.md` rule
R28; `43_exchange.md` rule R112). At line level the event port's strobe stands with the record of the step that made it
until the next clock, which clears it, unless that clock's own step makes the next record; when the strobe stands is the
model's reading of R28 (log entry 20). -/
def Obligations.EventsComeFromDrainTurns : Prop :=
  ∀ s t : State, step s = .next t →
    ((t.evlog = s.evlog ∧ ¬(s.phase = .drainRx ∧ t.phase = .drainTest)) ∨
      (s.phase = .drainRx ∧ t.phase = .drainTest ∧ ∃ e, t.evlog = s.evlog ++ [e] ∧ e.opc = t.decOpc ∧
        e.p2 = t.decP2 ∧ e.dstat = t.dstat) ∨
      (s.nextTurn = .rst ∧ t.evlog = [])) ∧
    (s.level = .lineLevel → s.nextTurn ≠ .rst →
      (∃ e, t.evlog = s.evlog ++ [e] ∧ t.line.evt = some e) ∨
      (t.evlog = s.evlog ∧ (∀ rx, s.nextTurn = .clk rx → t.line.evt = none) ∧
        ((∀ rx, s.nextTurn ≠ .clk rx) → t.line.evt = s.line.evt)))

/-- RESULT and RKIND are written only by the step that ends XCHG's reply read, and by reset (`10_state.md` rule R17;
`43_exchange.md` rule R116). -/
def Obligations.ResultWrittenOnlyByExchange : Prop :=
  ∀ s t : State, step s = .next t →
    (t.result = s.result ∧ t.rkind = s.rkind) ∨ (s.phase = .rx ∧ s.op = 0x6 ∧ t.phase = .idle) ∨
    s.nextTurn = .rst

/-- The decoded-field registers and DSTAT are written only by DEC, by the end of a drain turn, by the end of XCHG's
reply read, and by reset (`10_state.md` rule R16; `41_codec.md` rule R84). -/
def Obligations.DecodedFieldsWrittenOnlyByDecode : Prop :=
  ∀ s t : State, step s = .next t →
    (t.decOpc = s.decOpc ∧ t.decFb = s.decFb ∧ t.decP1 = s.decP1 ∧ t.decP2 = s.decP2 ∧ t.decCkh = s.decCkh ∧
      t.decCkl = s.decCkl ∧ t.dstat = s.dstat) ∨
    (s.phase = .idle ∧ s.nextTurn = .hostWrite 0x00 0x02) ∨ (s.phase = .drainRx ∧ t.phase = .drainTest) ∨
    (s.phase = .rx ∧ s.op = 0x6 ∧ t.phase = .idle) ∨ s.nextTurn = .rst

/-- TXBUF is written only by ENC, by XCHG's encode point with RXQ empty, and by reset; what is written is the frame of
the operand registers (`10_state.md` rule R18; `41_codec.md` rule R83; `20_memory.md` rule R51). -/
def Obligations.TransmitBufferWrittenOnlyByEncode : Prop :=
  ∀ s t : State, step s = .next t →
    t.txbuf = s.txbuf ∨
    (t.txbuf = mkFrame s.argOpc s.argFb s.argP1 s.argP2 ∧
      ((s.phase = .idle ∧ s.nextTurn = .hostWrite 0x00 0x01) ∨
        (s.phase = .drainTest ∧ s.op = 0x6 ∧ s.rxq = [] ∧ t.phase = .tx))) ∨
    s.nextTurn = .rst

/-- Operand coherence: while BUSY no step but a reset changes the operand registers or CTRL, so an operation sees the
values it was issued with (`20_memory.md` rule R53; `10_state.md` rule R30). -/
def Obligations.OperandsStableWhileBusy : Prop :=
  ∀ s t : State, step s = .next t → s.busy = true → s.nextTurn ≠ .rst →
    t.argOpc = s.argOpc ∧ t.argFb = s.argFb ∧ t.argP1 = s.argP1 ∧ t.argP2 = s.argP2 ∧ t.strict = s.strict

/-! The sequencer. -/

/-- The sequencer's own rows of the transition table at byte level (`43_exchange.md` rule R120). -/
def Obligations.SequencerTransitions : Prop :=
  ∀ s : State, s.level = .byteLevel →
    (s.phase = .idle → seqStep s = .next s) ∧
    (s.phase = .drainTest → s.rxq ≠ [] →
      seqStep s = .next { s with phase := .drainRx, rxbuf := Buf8.zero, rxlen := 0, tmo := false }) ∧
    (s.phase = .drainTest → s.rxq = [] → s.op = 0x5 → seqStep s = .next { s with phase := .idle, op := 0 }) ∧
    (s.phase = .drainTest → s.rxq = [] → s.op = 0x6 →
      seqStep s =
        .next { s with phase := .tx, idx := 0, txbuf := mkFrame s.argOpc s.argFb s.argP1 s.argP2 }) ∧
    (s.phase = .tx → s.idx.toNat < 7 →
      seqStep s = .next { s with idx := s.idx + 1, txwire := s.txwire ++ [s.txbuf.get s.idx.toNat] }) ∧
    (s.phase = .tx → s.idx = 7 → s.op = 0x3 →
      seqStep s =
        .next { s with idx := 8, txwire := s.txwire ++ [s.txbuf.b7], phase := .idle, op := 0 }) ∧
    (s.phase = .tx → s.idx = 7 → s.op = 0x6 →
      seqStep s =
        .next { s with
          idx := 8, txwire := s.txwire ++ [s.txbuf.b7], phase := .rx, rxbuf := Buf8.zero, rxlen := 0, tmo := false }) ∧
    (s.phase = .rx ∨ s.phase = .drainRx → s.rxq = [] → seqStep s = .next s) ∧
    (∀ b q, s.phase = .rx ∨ s.phase = .drainRx → s.rxq = b :: q → b ≠ 0xEF → s.rxlen.toNat < 7 →
      seqStep s = .next { s with rxq := q, rxbuf := s.rxbuf.set s.rxlen.toNat b, rxlen := s.rxlen + 1 }) ∧
    (∀ b q, s.phase = .rx ∨ s.phase = .drainRx → s.rxq = b :: q → b = 0xEF ∨ s.rxlen = 7 →
      seqStep s =
        frameReadEnds { s with rxq := q, rxbuf := s.rxbuf.set s.rxlen.toNat b, rxlen := s.rxlen + 1 }) ∧
    (s.phase = .flushWait → seqStep s = .next { s with phase := .idle, op := 0 })

/-- The invariant of the block is kept by every step of every agent, at both levels: only the (PHASE, OP) pairs of
`43_exchange.md` rule R120 occur, a frame read never overruns its buffer and holds no terminator before its end, what
is on the wire is what `TXBUF` holds, XCHG sends the frame of its operands before it reads, and the rest of
`State.Inv`. -/
def Obligations.EveryStepKeepsInvariant : Prop :=
  ∀ s t : State, s.Inv → step s = .next t → t.Inv

/-- The invariant holds at reset. -/
def Obligations.ResetMeetsInvariant : Prop := State.reset.Inv

/-- Every frame read ends (`42_uart.md` rule R99): if no more turns come from outside, any read, RXF's, XCHG's reply
read or a drain turn's, is over within eight RxSteps and one Timeout, a drain turn's in the next DrainTest. That nothing
more comes from outside is a schedule of the model's (log entry 1). -/
def Obligations.FrameReadEndsInNineSteps : Prop :=
  ∀ s : State, s.Inv → s.level = .byteLevel → s.agenda = [] → s.later = .quiet → s.phase = .rx ∨ s.phase = .drainRx →
    ∃ k t, k ≤ 9 ∧ Sys2Proof.core.run k s = .next t ∧ t.phase = if s.phase = .rx then .idle else .drainTest

/-- Every operation ends in a run in which only finitely many bytes arrive (`43_exchange.md` rule R121): from every
state of the invariant whose remaining schedule is a finite list of arrivals, SEQ and TIMER turns and host reads, with
nothing after it, the block comes to idle. The schedule is the model's (log entry 1); the drain that never ends under
endless arrivals is `XchgDrainsBeforeItSends`. -/
def Obligations.EveryOperationEnds : Prop :=
  ∀ s : State, s.Inv → s.level = .byteLevel → s.later = .quiet →
    (∀ t ∈ s.agenda, t = .seq ∨ t = .timeout ∨ (∃ b, t = .arrive b) ∨ ∃ n, n < 0x40 ∧ t = .hostRead n) →
    ∃ k t, Sys2Proof.core.run k s = .next t ∧ t.phase = .idle

/-! The line level. -/

/-- The transmitter sends the held byte as one start bit (low), eight data bits with the least significant first and
one stop bit (high), each `bc` clocks long, and then idles high (`42_uart.md` rules R100, R101). -/
def Obligations.TransmitterSendsCharacter : Prop :=
  ∀ (bc : Nat) (b : Byte) (l : Line), 1 ≤ bc → l.txBits = 0 → l.txHold = some b →
    (∀ i k, i < 10 → k < bc →
      (txTicks bc (i * bc + k + 1) l).txPin =
        if i = 0 then false else if i = 9 then true else b.getLsbD (i - 1)) ∧
    (txTicks bc (10 * bc + 1) l).txBits = 0 ∧ (txTicks bc (10 * bc + 1) l).txHold = none ∧
    (txTicks bc (10 * bc + 1) l).txPin = true

/-- The receiver, idle with the line high, turns the levels of a character at the same rate into exactly one report, of
that byte, and is idle again at its end (`42_uart.md` rules R100, R102). The clock is taken fast enough for a half-bit
sample point, two clocks a bit; that the half is rounded down is the model's choice (log entry 8). -/
def Obligations.ReceiverReadsCharacter : Prop :=
  ∀ (bc : Nat) (b : Byte) (l : Line), 2 ≤ bc → l.rxFsm = .hunting → l.rxPrev = true →
    (rxTicks bc (characterLevels bc b) l).2 = [.byte b] ∧
    (rxTicks bc (characterLevels bc b) l).1.rxFsm = .hunting ∧
    (rxTicks bc (characterLevels bc b) l).1.rxPrev = true

/-- A good stop bit performs `Arrive`, which drops the byte and sets OVERRUN if RXQ is full; a bad one drops the character, sets FERR and leaves RXQ alone, and no start bit is
looked for until the line is high again (`42_uart.md` rules R93, R102). -/
def Obligations.StopBitDecides : Prop :=
  ∀ (bc : Nat) (s : State), s.line.rxFsm = .stop → bc ≤ s.line.rxCount + 1 →
    (s.rxq.length < Config.rxqDepth →
      (lineTick bc true s).rxq = s.rxq ++ [s.line.rxShift] ∧ (lineTick bc true s).err = s.err) ∧
    (Config.rxqDepth ≤ s.rxq.length →
      (lineTick bc true s).rxq = s.rxq ∧ (lineTick bc true s).err = s.err ||| 0b001) ∧
    (lineTick bc true s).line.rxFsm = .hunting ∧
    (lineTick bc false s).rxq = s.rxq ∧ (lineTick bc false s).err = s.err ||| 0b010 ∧
    (lineTick bc false s).line.rxFsm = .recover ∧
    ∀ l : Line, l.rxFsm = .recover →
      (rxTick bc false l).1.rxFsm = .recover ∧ (rxTick bc true l).1.rxFsm = .hunting ∧ (rxTick bc true l).2 = .nothing

/-- At line level WireTx waits for the holding register and loads it (`42_uart.md` rule R101). The eighth WireTx also
leaves the TX phase: XCHG begins the reply read, TXF ends (`42_uart.md` rule R92; `43_exchange.md` rules R115, R120). -/
def Obligations.WireTxWaitsForHoldingRegister : Prop :=
  ∀ s : State, s.level = .lineLevel → s.phase = .tx →
    (s.line.txHold ≠ none → seqStep s = .next s) ∧
    (s.line.txHold = none → s.idx.toNat < 7 →
      seqStep s = .next { s with
        idx := s.idx + 1, txwire := s.txwire ++ [s.txbuf.get s.idx.toNat]
        line := { s.line with txHold := some (s.txbuf.get s.idx.toNat) } }) ∧
    (s.line.txHold = none → s.idx = 7 → s.op = 0x3 →
      seqStep s = .next { s with
        idx := 8, txwire := s.txwire ++ [s.txbuf.b7], line := { s.line with txHold := some s.txbuf.b7 }
        phase := .idle, op := 0 }) ∧
    (s.line.txHold = none → s.idx = 7 → s.op = 0x6 →
      seqStep s = .next { s with
        idx := 8, txwire := s.txwire ++ [s.txbuf.b7], line := { s.line with txHold := some s.txbuf.b7 }
        phase := .rx, rxbuf := Buf8.zero, rxlen := 0, tmo := false })

/-- The read-timeout counter at line level (`42_uart.md` rule R103): a clock in which the sequencer waits counts, a
clock in which it does not wait clears, and the count that reaches the limit performs `Timeout`. That every clock
without waiting clears is the model's reading (log entry 9). -/
def Obligations.TimeoutCounterCountsWaiting : Prop :=
  ∀ (bc n : Nat) (rx : Bool) (s : State), 1 ≤ n →
    ((lineTick bc rx s).waiting = false →
      ∃ t, clockStep bc n rx s = .next t ∧ t.line.toCount = 0 ∧ t.phase = s.phase) ∧
    ((lineTick bc rx s).waiting = true → s.line.toCount + 1 < n →
      ∃ t, clockStep bc n rx s = .next t ∧ t.line.toCount = s.line.toCount + 1 ∧ t.phase = s.phase ∧ t.tmo = s.tmo) ∧
    ((lineTick bc rx s).waiting = true → n ≤ s.line.toCount + 1 →
      ∃ t, clockStep bc n rx s = .next t ∧ t.tmo = true ∧ t.phase ≠ s.phase ∧ t.line.toCount = 0)

/-! The facade. -/

/-- A facade operation is exactly one XCHG with its fixed opcode and the feedback byte FACADE_FB: its turns, taken
while idle, load the four operand registers and issue XCHG (`46_facade.md` rules R190, R191; `30_encoding.md` rule
R69). The schedule (`agenda`, `later`) is the model's (log entry 1). -/
def Obligations.FacadeIssuesOneExchange : Prop :=
  ∀ (op : FacadeOp) (o p1 p2 : Byte) (s : State) (ts : List Turn), op.request? = some (o, p1, p2) → s.phase = .idle →
    s.agenda = op.turns ++ ts →
    Sys2Proof.core.run 5 s =
      .next { s with
        argOpc := o, argFb := Config.facadeFb, argP1 := p1, argP2 := p2, op := 0x6, phase := .drainTest, agenda := ts }

/-- `setVolume` clamps to 30 (`46_facade.md` rule R196), the volume in para2; `setMode` issues the opcode of the mode its
argument selects, and nothing for an argument that selects none (rule R208). -/
def Obligations.SetVolumeAndSetMode : Prop :=
  (∀ v : Byte, (FacadeOp.setVolume v).request? = some (0x06, 0x00, BitVec.ofNat 8 (min v.toNat 30))) ∧
  ∀ m : Byte,
    (FacadeOp.setMode m).turns =
      match Config.playModeOf m with
      | none => []
      | some .singlePlay => lineXchg 0x19 Config.facadeFb 0x00 0x00
      | some .continuous => lineXchg 0x11 Config.facadeFb 0x00 0x00
      | some .random => lineXchg 0x18 Config.facadeFb 0x00 0x00
end

