-- ==== Sys2Proof/Laws/State.lean ====
section
/-!
SUPPORT. Laws/State.lean: for each update of the state, what each field is after it.
-/

namespace Sys2Proof.Machine

variable (s : State)

/-! After `toIdle s`. -/

@[simp] theorem toIdle_op : (toIdle s).op = 0 := rfl
@[simp] theorem toIdle_phase : (toIdle s).phase = .idle := rfl
@[simp] theorem toIdle_idx : (toIdle s).idx = s.idx := rfl
@[simp] theorem toIdle_argOpc : (toIdle s).argOpc = s.argOpc := rfl
@[simp] theorem toIdle_argFb : (toIdle s).argFb = s.argFb := rfl
@[simp] theorem toIdle_argP1 : (toIdle s).argP1 = s.argP1 := rfl
@[simp] theorem toIdle_argP2 : (toIdle s).argP2 = s.argP2 := rfl
@[simp] theorem toIdle_strict : (toIdle s).strict = s.strict := rfl
@[simp] theorem toIdle_tmo : (toIdle s).tmo = s.tmo := rfl
@[simp] theorem toIdle_err : (toIdle s).err = s.err := rfl
@[simp] theorem toIdle_result : (toIdle s).result = s.result := rfl
@[simp] theorem toIdle_rkind : (toIdle s).rkind = s.rkind := rfl
@[simp] theorem toIdle_rxlen : (toIdle s).rxlen = s.rxlen := rfl
@[simp] theorem toIdle_dstat : (toIdle s).dstat = s.dstat := rfl
@[simp] theorem toIdle_txbuf : (toIdle s).txbuf = s.txbuf := rfl
@[simp] theorem toIdle_rxbuf : (toIdle s).rxbuf = s.rxbuf := rfl
@[simp] theorem toIdle_decOpc : (toIdle s).decOpc = s.decOpc := rfl
@[simp] theorem toIdle_decFb : (toIdle s).decFb = s.decFb := rfl
@[simp] theorem toIdle_decP1 : (toIdle s).decP1 = s.decP1 := rfl
@[simp] theorem toIdle_decP2 : (toIdle s).decP2 = s.decP2 := rfl
@[simp] theorem toIdle_decCkh : (toIdle s).decCkh = s.decCkh := rfl
@[simp] theorem toIdle_decCkl : (toIdle s).decCkl = s.decCkl := rfl
@[simp] theorem toIdle_rxq : (toIdle s).rxq = s.rxq := rfl
@[simp] theorem toIdle_txwire : (toIdle s).txwire = s.txwire := rfl
@[simp] theorem toIdle_evlog : (toIdle s).evlog = s.evlog := rfl
@[simp] theorem toIdle_hostData : (toIdle s).hostData = s.hostData := rfl
@[simp] theorem toIdle_line : (toIdle s).line = s.line := rfl
@[simp] theorem toIdle_level : (toIdle s).level = s.level := rfl
@[simp] theorem toIdle_agenda : (toIdle s).agenda = s.agenda := rfl
@[simp] theorem toIdle_later : (toIdle s).later = s.later := rfl

/-! After `encodeStep o f p1 p2 s`. -/

@[simp] theorem encodeStep_op (o f p1 p2 : Byte) : (encodeStep o f p1 p2 s).op = s.op := rfl
@[simp] theorem encodeStep_phase (o f p1 p2 : Byte) : (encodeStep o f p1 p2 s).phase = s.phase := rfl
@[simp] theorem encodeStep_idx (o f p1 p2 : Byte) : (encodeStep o f p1 p2 s).idx = s.idx := rfl
@[simp] theorem encodeStep_argOpc (o f p1 p2 : Byte) : (encodeStep o f p1 p2 s).argOpc = s.argOpc := rfl
@[simp] theorem encodeStep_argFb (o f p1 p2 : Byte) : (encodeStep o f p1 p2 s).argFb = s.argFb := rfl
@[simp] theorem encodeStep_argP1 (o f p1 p2 : Byte) : (encodeStep o f p1 p2 s).argP1 = s.argP1 := rfl
@[simp] theorem encodeStep_argP2 (o f p1 p2 : Byte) : (encodeStep o f p1 p2 s).argP2 = s.argP2 := rfl
@[simp] theorem encodeStep_strict (o f p1 p2 : Byte) : (encodeStep o f p1 p2 s).strict = s.strict := rfl
@[simp] theorem encodeStep_tmo (o f p1 p2 : Byte) : (encodeStep o f p1 p2 s).tmo = s.tmo := rfl
@[simp] theorem encodeStep_err (o f p1 p2 : Byte) : (encodeStep o f p1 p2 s).err = s.err := rfl
@[simp] theorem encodeStep_result (o f p1 p2 : Byte) : (encodeStep o f p1 p2 s).result = s.result := rfl
@[simp] theorem encodeStep_rkind (o f p1 p2 : Byte) : (encodeStep o f p1 p2 s).rkind = s.rkind := rfl
@[simp] theorem encodeStep_rxlen (o f p1 p2 : Byte) : (encodeStep o f p1 p2 s).rxlen = s.rxlen := rfl
@[simp] theorem encodeStep_dstat (o f p1 p2 : Byte) : (encodeStep o f p1 p2 s).dstat = s.dstat := rfl
@[simp] theorem encodeStep_txbuf (o f p1 p2 : Byte) : (encodeStep o f p1 p2 s).txbuf = mkFrame o f p1 p2 := rfl
@[simp] theorem encodeStep_rxbuf (o f p1 p2 : Byte) : (encodeStep o f p1 p2 s).rxbuf = s.rxbuf := rfl
@[simp] theorem encodeStep_decOpc (o f p1 p2 : Byte) : (encodeStep o f p1 p2 s).decOpc = s.decOpc := rfl
@[simp] theorem encodeStep_decFb (o f p1 p2 : Byte) : (encodeStep o f p1 p2 s).decFb = s.decFb := rfl
@[simp] theorem encodeStep_decP1 (o f p1 p2 : Byte) : (encodeStep o f p1 p2 s).decP1 = s.decP1 := rfl
@[simp] theorem encodeStep_decP2 (o f p1 p2 : Byte) : (encodeStep o f p1 p2 s).decP2 = s.decP2 := rfl
@[simp] theorem encodeStep_decCkh (o f p1 p2 : Byte) : (encodeStep o f p1 p2 s).decCkh = s.decCkh := rfl
@[simp] theorem encodeStep_decCkl (o f p1 p2 : Byte) : (encodeStep o f p1 p2 s).decCkl = s.decCkl := rfl
@[simp] theorem encodeStep_rxq (o f p1 p2 : Byte) : (encodeStep o f p1 p2 s).rxq = s.rxq := rfl
@[simp] theorem encodeStep_txwire (o f p1 p2 : Byte) : (encodeStep o f p1 p2 s).txwire = s.txwire := rfl
@[simp] theorem encodeStep_evlog (o f p1 p2 : Byte) : (encodeStep o f p1 p2 s).evlog = s.evlog := rfl
@[simp] theorem encodeStep_hostData (o f p1 p2 : Byte) : (encodeStep o f p1 p2 s).hostData = s.hostData := rfl
@[simp] theorem encodeStep_line (o f p1 p2 : Byte) : (encodeStep o f p1 p2 s).line = s.line := rfl
@[simp] theorem encodeStep_level (o f p1 p2 : Byte) : (encodeStep o f p1 p2 s).level = s.level := rfl
@[simp] theorem encodeStep_agenda (o f p1 p2 : Byte) : (encodeStep o f p1 p2 s).agenda = s.agenda := rfl
@[simp] theorem encodeStep_later (o f p1 p2 : Byte) : (encodeStep o f p1 p2 s).later = s.later := rfl

/-! After `decodeStep s`. -/

@[simp] theorem decodeStep_op : (decodeStep s).op = s.op := rfl
@[simp] theorem decodeStep_phase : (decodeStep s).phase = s.phase := rfl
@[simp] theorem decodeStep_idx : (decodeStep s).idx = s.idx := rfl
@[simp] theorem decodeStep_argOpc : (decodeStep s).argOpc = s.argOpc := rfl
@[simp] theorem decodeStep_argFb : (decodeStep s).argFb = s.argFb := rfl
@[simp] theorem decodeStep_argP1 : (decodeStep s).argP1 = s.argP1 := rfl
@[simp] theorem decodeStep_argP2 : (decodeStep s).argP2 = s.argP2 := rfl
@[simp] theorem decodeStep_strict : (decodeStep s).strict = s.strict := rfl
@[simp] theorem decodeStep_tmo : (decodeStep s).tmo = s.tmo := rfl
@[simp] theorem decodeStep_err : (decodeStep s).err = s.err := rfl
@[simp] theorem decodeStep_result : (decodeStep s).result = s.result := rfl
@[simp] theorem decodeStep_rkind : (decodeStep s).rkind = s.rkind := rfl
@[simp] theorem decodeStep_rxlen : (decodeStep s).rxlen = s.rxlen := rfl
@[simp] theorem decodeStep_dstat : (decodeStep s).dstat = dstatOf s.rxbuf s.rxlen := rfl
@[simp] theorem decodeStep_txbuf : (decodeStep s).txbuf = s.txbuf := rfl
@[simp] theorem decodeStep_rxbuf : (decodeStep s).rxbuf = s.rxbuf := rfl
@[simp] theorem decodeStep_decOpc : (decodeStep s).decOpc = s.rxbuf.b1 := rfl
@[simp] theorem decodeStep_decFb : (decodeStep s).decFb = s.rxbuf.b2 := rfl
@[simp] theorem decodeStep_decP1 : (decodeStep s).decP1 = s.rxbuf.b3 := rfl
@[simp] theorem decodeStep_decP2 : (decodeStep s).decP2 = s.rxbuf.b4 := rfl
@[simp] theorem decodeStep_decCkh : (decodeStep s).decCkh = s.rxbuf.b5 := rfl
@[simp] theorem decodeStep_decCkl : (decodeStep s).decCkl = s.rxbuf.b6 := rfl
@[simp] theorem decodeStep_rxq : (decodeStep s).rxq = s.rxq := rfl
@[simp] theorem decodeStep_txwire : (decodeStep s).txwire = s.txwire := rfl
@[simp] theorem decodeStep_evlog : (decodeStep s).evlog = s.evlog := rfl
@[simp] theorem decodeStep_hostData : (decodeStep s).hostData = s.hostData := rfl
@[simp] theorem decodeStep_line : (decodeStep s).line = s.line := rfl
@[simp] theorem decodeStep_level : (decodeStep s).level = s.level := rfl
@[simp] theorem decodeStep_agenda : (decodeStep s).agenda = s.agenda := rfl
@[simp] theorem decodeStep_later : (decodeStep s).later = s.later := rfl

/-! After `readFrameBegin s`. -/

@[simp] theorem readFrameBegin_op : (readFrameBegin s).op = s.op := rfl
@[simp] theorem readFrameBegin_phase : (readFrameBegin s).phase = s.phase := rfl
@[simp] theorem readFrameBegin_idx : (readFrameBegin s).idx = s.idx := rfl
@[simp] theorem readFrameBegin_argOpc : (readFrameBegin s).argOpc = s.argOpc := rfl
@[simp] theorem readFrameBegin_argFb : (readFrameBegin s).argFb = s.argFb := rfl
@[simp] theorem readFrameBegin_argP1 : (readFrameBegin s).argP1 = s.argP1 := rfl
@[simp] theorem readFrameBegin_argP2 : (readFrameBegin s).argP2 = s.argP2 := rfl
@[simp] theorem readFrameBegin_strict : (readFrameBegin s).strict = s.strict := rfl
@[simp] theorem readFrameBegin_tmo : (readFrameBegin s).tmo = false := rfl
@[simp] theorem readFrameBegin_err : (readFrameBegin s).err = s.err := rfl
@[simp] theorem readFrameBegin_result : (readFrameBegin s).result = s.result := rfl
@[simp] theorem readFrameBegin_rkind : (readFrameBegin s).rkind = s.rkind := rfl
@[simp] theorem readFrameBegin_rxlen : (readFrameBegin s).rxlen = 0 := rfl
@[simp] theorem readFrameBegin_dstat : (readFrameBegin s).dstat = s.dstat := rfl
@[simp] theorem readFrameBegin_txbuf : (readFrameBegin s).txbuf = s.txbuf := rfl
@[simp] theorem readFrameBegin_rxbuf : (readFrameBegin s).rxbuf = Buf8.zero := rfl
@[simp] theorem readFrameBegin_decOpc : (readFrameBegin s).decOpc = s.decOpc := rfl
@[simp] theorem readFrameBegin_decFb : (readFrameBegin s).decFb = s.decFb := rfl
@[simp] theorem readFrameBegin_decP1 : (readFrameBegin s).decP1 = s.decP1 := rfl
@[simp] theorem readFrameBegin_decP2 : (readFrameBegin s).decP2 = s.decP2 := rfl
@[simp] theorem readFrameBegin_decCkh : (readFrameBegin s).decCkh = s.decCkh := rfl
@[simp] theorem readFrameBegin_decCkl : (readFrameBegin s).decCkl = s.decCkl := rfl
@[simp] theorem readFrameBegin_rxq : (readFrameBegin s).rxq = s.rxq := rfl
@[simp] theorem readFrameBegin_txwire : (readFrameBegin s).txwire = s.txwire := rfl
@[simp] theorem readFrameBegin_evlog : (readFrameBegin s).evlog = s.evlog := rfl
@[simp] theorem readFrameBegin_hostData : (readFrameBegin s).hostData = s.hostData := rfl
@[simp] theorem readFrameBegin_line : (readFrameBegin s).line = s.line := rfl
@[simp] theorem readFrameBegin_level : (readFrameBegin s).level = s.level := rfl
@[simp] theorem readFrameBegin_agenda : (readFrameBegin s).agenda = s.agenda := rfl
@[simp] theorem readFrameBegin_later : (readFrameBegin s).later = s.later := rfl

/-! After `emit e s`. -/

@[simp] theorem emit_op (e : Event) : (emit e s).op = s.op := rfl
@[simp] theorem emit_phase (e : Event) : (emit e s).phase = s.phase := rfl
@[simp] theorem emit_idx (e : Event) : (emit e s).idx = s.idx := rfl
@[simp] theorem emit_argOpc (e : Event) : (emit e s).argOpc = s.argOpc := rfl
@[simp] theorem emit_argFb (e : Event) : (emit e s).argFb = s.argFb := rfl
@[simp] theorem emit_argP1 (e : Event) : (emit e s).argP1 = s.argP1 := rfl
@[simp] theorem emit_argP2 (e : Event) : (emit e s).argP2 = s.argP2 := rfl
@[simp] theorem emit_strict (e : Event) : (emit e s).strict = s.strict := rfl
@[simp] theorem emit_tmo (e : Event) : (emit e s).tmo = s.tmo := rfl
@[simp] theorem emit_err (e : Event) : (emit e s).err = s.err := rfl
@[simp] theorem emit_result (e : Event) : (emit e s).result = s.result := rfl
@[simp] theorem emit_rkind (e : Event) : (emit e s).rkind = s.rkind := rfl
@[simp] theorem emit_rxlen (e : Event) : (emit e s).rxlen = s.rxlen := rfl
@[simp] theorem emit_dstat (e : Event) : (emit e s).dstat = s.dstat := rfl
@[simp] theorem emit_txbuf (e : Event) : (emit e s).txbuf = s.txbuf := rfl
@[simp] theorem emit_rxbuf (e : Event) : (emit e s).rxbuf = s.rxbuf := rfl
@[simp] theorem emit_decOpc (e : Event) : (emit e s).decOpc = s.decOpc := rfl
@[simp] theorem emit_decFb (e : Event) : (emit e s).decFb = s.decFb := rfl
@[simp] theorem emit_decP1 (e : Event) : (emit e s).decP1 = s.decP1 := rfl
@[simp] theorem emit_decP2 (e : Event) : (emit e s).decP2 = s.decP2 := rfl
@[simp] theorem emit_decCkh (e : Event) : (emit e s).decCkh = s.decCkh := rfl
@[simp] theorem emit_decCkl (e : Event) : (emit e s).decCkl = s.decCkl := rfl
@[simp] theorem emit_rxq (e : Event) : (emit e s).rxq = s.rxq := rfl
@[simp] theorem emit_txwire (e : Event) : (emit e s).txwire = s.txwire := rfl
@[simp] theorem emit_evlog (e : Event) : (emit e s).evlog = s.evlog ++ [e] := rfl
@[simp] theorem emit_hostData (e : Event) : (emit e s).hostData = s.hostData := rfl
@[simp] theorem emit_line (e : Event) : (emit e s).line = strobe s.level e s.line := rfl
@[simp] theorem emit_level (e : Event) : (emit e s).level = s.level := rfl
@[simp] theorem emit_agenda (e : Event) : (emit e s).agenda = s.agenda := rfl
@[simp] theorem emit_later (e : Event) : (emit e s).later = s.later := rfl

/-! After `interpretAs a s`. -/

@[simp] theorem interpretAs_op (a : ReplyArm) : (interpretAs a s).op = s.op := rfl
@[simp] theorem interpretAs_phase (a : ReplyArm) : (interpretAs a s).phase = s.phase := rfl
@[simp] theorem interpretAs_idx (a : ReplyArm) : (interpretAs a s).idx = s.idx := rfl
@[simp] theorem interpretAs_argOpc (a : ReplyArm) : (interpretAs a s).argOpc = s.argOpc := rfl
@[simp] theorem interpretAs_argFb (a : ReplyArm) : (interpretAs a s).argFb = s.argFb := rfl
@[simp] theorem interpretAs_argP1 (a : ReplyArm) : (interpretAs a s).argP1 = s.argP1 := rfl
@[simp] theorem interpretAs_argP2 (a : ReplyArm) : (interpretAs a s).argP2 = s.argP2 := rfl
@[simp] theorem interpretAs_strict (a : ReplyArm) : (interpretAs a s).strict = s.strict := rfl
@[simp] theorem interpretAs_tmo (a : ReplyArm) : (interpretAs a s).tmo = s.tmo := rfl
@[simp] theorem interpretAs_err (a : ReplyArm) : (interpretAs a s).err = s.err := rfl
@[simp] theorem interpretAs_result (a : ReplyArm) : (interpretAs a s).result = (s.armTaken a).result s.decP2 := rfl
@[simp] theorem interpretAs_rkind (a : ReplyArm) : (interpretAs a s).rkind = (s.armTaken a).kind := rfl
@[simp] theorem interpretAs_rxlen (a : ReplyArm) : (interpretAs a s).rxlen = s.rxlen := rfl
@[simp] theorem interpretAs_dstat (a : ReplyArm) : (interpretAs a s).dstat = s.dstat := rfl
@[simp] theorem interpretAs_txbuf (a : ReplyArm) : (interpretAs a s).txbuf = s.txbuf := rfl
@[simp] theorem interpretAs_rxbuf (a : ReplyArm) : (interpretAs a s).rxbuf = s.rxbuf := rfl
@[simp] theorem interpretAs_decOpc (a : ReplyArm) : (interpretAs a s).decOpc = s.decOpc := rfl
@[simp] theorem interpretAs_decFb (a : ReplyArm) : (interpretAs a s).decFb = s.decFb := rfl
@[simp] theorem interpretAs_decP1 (a : ReplyArm) : (interpretAs a s).decP1 = s.decP1 := rfl
@[simp] theorem interpretAs_decP2 (a : ReplyArm) : (interpretAs a s).decP2 = s.decP2 := rfl
@[simp] theorem interpretAs_decCkh (a : ReplyArm) : (interpretAs a s).decCkh = s.decCkh := rfl
@[simp] theorem interpretAs_decCkl (a : ReplyArm) : (interpretAs a s).decCkl = s.decCkl := rfl
@[simp] theorem interpretAs_rxq (a : ReplyArm) : (interpretAs a s).rxq = s.rxq := rfl
@[simp] theorem interpretAs_txwire (a : ReplyArm) : (interpretAs a s).txwire = s.txwire := rfl
@[simp] theorem interpretAs_evlog (a : ReplyArm) : (interpretAs a s).evlog = s.evlog := rfl
@[simp] theorem interpretAs_hostData (a : ReplyArm) : (interpretAs a s).hostData = s.hostData := rfl
@[simp] theorem interpretAs_line (a : ReplyArm) : (interpretAs a s).line = s.line := rfl
@[simp] theorem interpretAs_level (a : ReplyArm) : (interpretAs a s).level = s.level := rfl
@[simp] theorem interpretAs_agenda (a : ReplyArm) : (interpretAs a s).agenda = s.agenda := rfl
@[simp] theorem interpretAs_later (a : ReplyArm) : (interpretAs a s).later = s.later := rfl

/-! After `enterTx s`. -/

@[simp] theorem enterTx_op : (enterTx s).op = s.op := rfl
@[simp] theorem enterTx_phase : (enterTx s).phase = .tx := rfl
@[simp] theorem enterTx_idx : (enterTx s).idx = 0 := rfl
@[simp] theorem enterTx_argOpc : (enterTx s).argOpc = s.argOpc := rfl
@[simp] theorem enterTx_argFb : (enterTx s).argFb = s.argFb := rfl
@[simp] theorem enterTx_argP1 : (enterTx s).argP1 = s.argP1 := rfl
@[simp] theorem enterTx_argP2 : (enterTx s).argP2 = s.argP2 := rfl
@[simp] theorem enterTx_strict : (enterTx s).strict = s.strict := rfl
@[simp] theorem enterTx_tmo : (enterTx s).tmo = s.tmo := rfl
@[simp] theorem enterTx_err : (enterTx s).err = s.err := rfl
@[simp] theorem enterTx_result : (enterTx s).result = s.result := rfl
@[simp] theorem enterTx_rkind : (enterTx s).rkind = s.rkind := rfl
@[simp] theorem enterTx_rxlen : (enterTx s).rxlen = s.rxlen := rfl
@[simp] theorem enterTx_dstat : (enterTx s).dstat = s.dstat := rfl
@[simp] theorem enterTx_txbuf : (enterTx s).txbuf = s.txbuf := rfl
@[simp] theorem enterTx_rxbuf : (enterTx s).rxbuf = s.rxbuf := rfl
@[simp] theorem enterTx_decOpc : (enterTx s).decOpc = s.decOpc := rfl
@[simp] theorem enterTx_decFb : (enterTx s).decFb = s.decFb := rfl
@[simp] theorem enterTx_decP1 : (enterTx s).decP1 = s.decP1 := rfl
@[simp] theorem enterTx_decP2 : (enterTx s).decP2 = s.decP2 := rfl
@[simp] theorem enterTx_decCkh : (enterTx s).decCkh = s.decCkh := rfl
@[simp] theorem enterTx_decCkl : (enterTx s).decCkl = s.decCkl := rfl
@[simp] theorem enterTx_rxq : (enterTx s).rxq = s.rxq := rfl
@[simp] theorem enterTx_txwire : (enterTx s).txwire = s.txwire := rfl
@[simp] theorem enterTx_evlog : (enterTx s).evlog = s.evlog := rfl
@[simp] theorem enterTx_hostData : (enterTx s).hostData = s.hostData := rfl
@[simp] theorem enterTx_line : (enterTx s).line = s.line := rfl
@[simp] theorem enterTx_level : (enterTx s).level = s.level := rfl
@[simp] theorem enterTx_agenda : (enterTx s).agenda = s.agenda := rfl
@[simp] theorem enterTx_later : (enterTx s).later = s.later := rfl

/-! After `encodeArgs s`. -/

@[simp] theorem encodeArgs_op : (encodeArgs s).op = s.op := rfl
@[simp] theorem encodeArgs_phase : (encodeArgs s).phase = s.phase := rfl
@[simp] theorem encodeArgs_idx : (encodeArgs s).idx = s.idx := rfl
@[simp] theorem encodeArgs_argOpc : (encodeArgs s).argOpc = s.argOpc := rfl
@[simp] theorem encodeArgs_argFb : (encodeArgs s).argFb = s.argFb := rfl
@[simp] theorem encodeArgs_argP1 : (encodeArgs s).argP1 = s.argP1 := rfl
@[simp] theorem encodeArgs_argP2 : (encodeArgs s).argP2 = s.argP2 := rfl
@[simp] theorem encodeArgs_strict : (encodeArgs s).strict = s.strict := rfl
@[simp] theorem encodeArgs_tmo : (encodeArgs s).tmo = s.tmo := rfl
@[simp] theorem encodeArgs_err : (encodeArgs s).err = s.err := rfl
@[simp] theorem encodeArgs_result : (encodeArgs s).result = s.result := rfl
@[simp] theorem encodeArgs_rkind : (encodeArgs s).rkind = s.rkind := rfl
@[simp] theorem encodeArgs_rxlen : (encodeArgs s).rxlen = s.rxlen := rfl
@[simp] theorem encodeArgs_dstat : (encodeArgs s).dstat = s.dstat := rfl
@[simp] theorem encodeArgs_txbuf : (encodeArgs s).txbuf = mkFrame s.argOpc s.argFb s.argP1 s.argP2 := rfl
@[simp] theorem encodeArgs_rxbuf : (encodeArgs s).rxbuf = s.rxbuf := rfl
@[simp] theorem encodeArgs_decOpc : (encodeArgs s).decOpc = s.decOpc := rfl
@[simp] theorem encodeArgs_decFb : (encodeArgs s).decFb = s.decFb := rfl
@[simp] theorem encodeArgs_decP1 : (encodeArgs s).decP1 = s.decP1 := rfl
@[simp] theorem encodeArgs_decP2 : (encodeArgs s).decP2 = s.decP2 := rfl
@[simp] theorem encodeArgs_decCkh : (encodeArgs s).decCkh = s.decCkh := rfl
@[simp] theorem encodeArgs_decCkl : (encodeArgs s).decCkl = s.decCkl := rfl
@[simp] theorem encodeArgs_rxq : (encodeArgs s).rxq = s.rxq := rfl
@[simp] theorem encodeArgs_txwire : (encodeArgs s).txwire = s.txwire := rfl
@[simp] theorem encodeArgs_evlog : (encodeArgs s).evlog = s.evlog := rfl
@[simp] theorem encodeArgs_hostData : (encodeArgs s).hostData = s.hostData := rfl
@[simp] theorem encodeArgs_line : (encodeArgs s).line = s.line := rfl
@[simp] theorem encodeArgs_level : (encodeArgs s).level = s.level := rfl
@[simp] theorem encodeArgs_agenda : (encodeArgs s).agenda = s.agenda := rfl
@[simp] theorem encodeArgs_later : (encodeArgs s).later = s.later := rfl

/-! After `wireTx b s`. -/

@[simp] theorem wireTx_op (b : Byte) : (wireTx b s).op = s.op := rfl
@[simp] theorem wireTx_phase (b : Byte) : (wireTx b s).phase = s.phase := rfl
@[simp] theorem wireTx_idx (b : Byte) : (wireTx b s).idx = s.idx := rfl
@[simp] theorem wireTx_argOpc (b : Byte) : (wireTx b s).argOpc = s.argOpc := rfl
@[simp] theorem wireTx_argFb (b : Byte) : (wireTx b s).argFb = s.argFb := rfl
@[simp] theorem wireTx_argP1 (b : Byte) : (wireTx b s).argP1 = s.argP1 := rfl
@[simp] theorem wireTx_argP2 (b : Byte) : (wireTx b s).argP2 = s.argP2 := rfl
@[simp] theorem wireTx_strict (b : Byte) : (wireTx b s).strict = s.strict := rfl
@[simp] theorem wireTx_tmo (b : Byte) : (wireTx b s).tmo = s.tmo := rfl
@[simp] theorem wireTx_err (b : Byte) : (wireTx b s).err = s.err := rfl
@[simp] theorem wireTx_result (b : Byte) : (wireTx b s).result = s.result := rfl
@[simp] theorem wireTx_rkind (b : Byte) : (wireTx b s).rkind = s.rkind := rfl
@[simp] theorem wireTx_rxlen (b : Byte) : (wireTx b s).rxlen = s.rxlen := rfl
@[simp] theorem wireTx_dstat (b : Byte) : (wireTx b s).dstat = s.dstat := rfl
@[simp] theorem wireTx_txbuf (b : Byte) : (wireTx b s).txbuf = s.txbuf := rfl
@[simp] theorem wireTx_rxbuf (b : Byte) : (wireTx b s).rxbuf = s.rxbuf := rfl
@[simp] theorem wireTx_decOpc (b : Byte) : (wireTx b s).decOpc = s.decOpc := rfl
@[simp] theorem wireTx_decFb (b : Byte) : (wireTx b s).decFb = s.decFb := rfl
@[simp] theorem wireTx_decP1 (b : Byte) : (wireTx b s).decP1 = s.decP1 := rfl
@[simp] theorem wireTx_decP2 (b : Byte) : (wireTx b s).decP2 = s.decP2 := rfl
@[simp] theorem wireTx_decCkh (b : Byte) : (wireTx b s).decCkh = s.decCkh := rfl
@[simp] theorem wireTx_decCkl (b : Byte) : (wireTx b s).decCkl = s.decCkl := rfl
@[simp] theorem wireTx_rxq (b : Byte) : (wireTx b s).rxq = s.rxq := rfl
@[simp] theorem wireTx_txwire (b : Byte) : (wireTx b s).txwire = s.txwire ++ [b] := rfl
@[simp] theorem wireTx_evlog (b : Byte) : (wireTx b s).evlog = s.evlog := rfl
@[simp] theorem wireTx_hostData (b : Byte) : (wireTx b s).hostData = s.hostData := rfl
@[simp] theorem wireTx_line (b : Byte) : (wireTx b s).line = loadHold s.level b s.line := rfl
@[simp] theorem wireTx_level (b : Byte) : (wireTx b s).level = s.level := rfl
@[simp] theorem wireTx_agenda (b : Byte) : (wireTx b s).agenda = s.agenda := rfl
@[simp] theorem wireTx_later (b : Byte) : (wireTx b s).later = s.later := rfl

/-! After `storeByte b q s`. -/

@[simp] theorem storeByte_op (b : Byte) (q : List Byte) : (storeByte b q s).op = s.op := rfl
@[simp] theorem storeByte_phase (b : Byte) (q : List Byte) : (storeByte b q s).phase = s.phase := rfl
@[simp] theorem storeByte_idx (b : Byte) (q : List Byte) : (storeByte b q s).idx = s.idx := rfl
@[simp] theorem storeByte_argOpc (b : Byte) (q : List Byte) : (storeByte b q s).argOpc = s.argOpc := rfl
@[simp] theorem storeByte_argFb (b : Byte) (q : List Byte) : (storeByte b q s).argFb = s.argFb := rfl
@[simp] theorem storeByte_argP1 (b : Byte) (q : List Byte) : (storeByte b q s).argP1 = s.argP1 := rfl
@[simp] theorem storeByte_argP2 (b : Byte) (q : List Byte) : (storeByte b q s).argP2 = s.argP2 := rfl
@[simp] theorem storeByte_strict (b : Byte) (q : List Byte) : (storeByte b q s).strict = s.strict := rfl
@[simp] theorem storeByte_tmo (b : Byte) (q : List Byte) : (storeByte b q s).tmo = s.tmo := rfl
@[simp] theorem storeByte_err (b : Byte) (q : List Byte) : (storeByte b q s).err = s.err := rfl
@[simp] theorem storeByte_result (b : Byte) (q : List Byte) : (storeByte b q s).result = s.result := rfl
@[simp] theorem storeByte_rkind (b : Byte) (q : List Byte) : (storeByte b q s).rkind = s.rkind := rfl
@[simp] theorem storeByte_rxlen (b : Byte) (q : List Byte) : (storeByte b q s).rxlen = s.rxlen + 1 := rfl
@[simp] theorem storeByte_dstat (b : Byte) (q : List Byte) : (storeByte b q s).dstat = s.dstat := rfl
@[simp] theorem storeByte_txbuf (b : Byte) (q : List Byte) : (storeByte b q s).txbuf = s.txbuf := rfl
@[simp] theorem storeByte_rxbuf (b : Byte) (q : List Byte) : (storeByte b q s).rxbuf = s.rxbuf.set s.rxlen.toNat b := rfl
@[simp] theorem storeByte_decOpc (b : Byte) (q : List Byte) : (storeByte b q s).decOpc = s.decOpc := rfl
@[simp] theorem storeByte_decFb (b : Byte) (q : List Byte) : (storeByte b q s).decFb = s.decFb := rfl
@[simp] theorem storeByte_decP1 (b : Byte) (q : List Byte) : (storeByte b q s).decP1 = s.decP1 := rfl
@[simp] theorem storeByte_decP2 (b : Byte) (q : List Byte) : (storeByte b q s).decP2 = s.decP2 := rfl
@[simp] theorem storeByte_decCkh (b : Byte) (q : List Byte) : (storeByte b q s).decCkh = s.decCkh := rfl
@[simp] theorem storeByte_decCkl (b : Byte) (q : List Byte) : (storeByte b q s).decCkl = s.decCkl := rfl
@[simp] theorem storeByte_rxq (b : Byte) (q : List Byte) : (storeByte b q s).rxq = q := rfl
@[simp] theorem storeByte_txwire (b : Byte) (q : List Byte) : (storeByte b q s).txwire = s.txwire := rfl
@[simp] theorem storeByte_evlog (b : Byte) (q : List Byte) : (storeByte b q s).evlog = s.evlog := rfl
@[simp] theorem storeByte_hostData (b : Byte) (q : List Byte) : (storeByte b q s).hostData = s.hostData := rfl
@[simp] theorem storeByte_line (b : Byte) (q : List Byte) : (storeByte b q s).line = s.line := rfl
@[simp] theorem storeByte_level (b : Byte) (q : List Byte) : (storeByte b q s).level = s.level := rfl
@[simp] theorem storeByte_agenda (b : Byte) (q : List Byte) : (storeByte b q s).agenda = s.agenda := rfl
@[simp] theorem storeByte_later (b : Byte) (q : List Byte) : (storeByte b q s).later = s.later := rfl

/-! After `arriveInto d b c s`. -/

@[simp] theorem arriveInto_op (d : Nat) (b : Byte) (c : BitVec 3) : (arriveInto d b c s).op = s.op := rfl
@[simp] theorem arriveInto_phase (d : Nat) (b : Byte) (c : BitVec 3) : (arriveInto d b c s).phase = s.phase := rfl
@[simp] theorem arriveInto_idx (d : Nat) (b : Byte) (c : BitVec 3) : (arriveInto d b c s).idx = s.idx := rfl
@[simp] theorem arriveInto_argOpc (d : Nat) (b : Byte) (c : BitVec 3) : (arriveInto d b c s).argOpc = s.argOpc := rfl
@[simp] theorem arriveInto_argFb (d : Nat) (b : Byte) (c : BitVec 3) : (arriveInto d b c s).argFb = s.argFb := rfl
@[simp] theorem arriveInto_argP1 (d : Nat) (b : Byte) (c : BitVec 3) : (arriveInto d b c s).argP1 = s.argP1 := rfl
@[simp] theorem arriveInto_argP2 (d : Nat) (b : Byte) (c : BitVec 3) : (arriveInto d b c s).argP2 = s.argP2 := rfl
@[simp] theorem arriveInto_strict (d : Nat) (b : Byte) (c : BitVec 3) : (arriveInto d b c s).strict = s.strict := rfl
@[simp] theorem arriveInto_tmo (d : Nat) (b : Byte) (c : BitVec 3) : (arriveInto d b c s).tmo = s.tmo := rfl
@[simp] theorem arriveInto_err (d : Nat) (b : Byte) (c : BitVec 3) : (arriveInto d b c s).err = errAfter s.err (if s.rxq.length < d then 0 else errOverrun) c := rfl
@[simp] theorem arriveInto_result (d : Nat) (b : Byte) (c : BitVec 3) : (arriveInto d b c s).result = s.result := rfl
@[simp] theorem arriveInto_rkind (d : Nat) (b : Byte) (c : BitVec 3) : (arriveInto d b c s).rkind = s.rkind := rfl
@[simp] theorem arriveInto_rxlen (d : Nat) (b : Byte) (c : BitVec 3) : (arriveInto d b c s).rxlen = s.rxlen := rfl
@[simp] theorem arriveInto_dstat (d : Nat) (b : Byte) (c : BitVec 3) : (arriveInto d b c s).dstat = s.dstat := rfl
@[simp] theorem arriveInto_txbuf (d : Nat) (b : Byte) (c : BitVec 3) : (arriveInto d b c s).txbuf = s.txbuf := rfl
@[simp] theorem arriveInto_rxbuf (d : Nat) (b : Byte) (c : BitVec 3) : (arriveInto d b c s).rxbuf = s.rxbuf := rfl
@[simp] theorem arriveInto_decOpc (d : Nat) (b : Byte) (c : BitVec 3) : (arriveInto d b c s).decOpc = s.decOpc := rfl
@[simp] theorem arriveInto_decFb (d : Nat) (b : Byte) (c : BitVec 3) : (arriveInto d b c s).decFb = s.decFb := rfl
@[simp] theorem arriveInto_decP1 (d : Nat) (b : Byte) (c : BitVec 3) : (arriveInto d b c s).decP1 = s.decP1 := rfl
@[simp] theorem arriveInto_decP2 (d : Nat) (b : Byte) (c : BitVec 3) : (arriveInto d b c s).decP2 = s.decP2 := rfl
@[simp] theorem arriveInto_decCkh (d : Nat) (b : Byte) (c : BitVec 3) : (arriveInto d b c s).decCkh = s.decCkh := rfl
@[simp] theorem arriveInto_decCkl (d : Nat) (b : Byte) (c : BitVec 3) : (arriveInto d b c s).decCkl = s.decCkl := rfl
@[simp] theorem arriveInto_rxq (d : Nat) (b : Byte) (c : BitVec 3) : (arriveInto d b c s).rxq = if s.rxq.length < d then s.rxq ++ [b] else s.rxq := rfl
@[simp] theorem arriveInto_txwire (d : Nat) (b : Byte) (c : BitVec 3) : (arriveInto d b c s).txwire = s.txwire := rfl
@[simp] theorem arriveInto_evlog (d : Nat) (b : Byte) (c : BitVec 3) : (arriveInto d b c s).evlog = s.evlog := rfl
@[simp] theorem arriveInto_hostData (d : Nat) (b : Byte) (c : BitVec 3) : (arriveInto d b c s).hostData = s.hostData := rfl
@[simp] theorem arriveInto_line (d : Nat) (b : Byte) (c : BitVec 3) : (arriveInto d b c s).line = s.line := rfl
@[simp] theorem arriveInto_level (d : Nat) (b : Byte) (c : BitVec 3) : (arriveInto d b c s).level = s.level := rfl
@[simp] theorem arriveInto_agenda (d : Nat) (b : Byte) (c : BitVec 3) : (arriveInto d b c s).agenda = s.agenda := rfl
@[simp] theorem arriveInto_later (d : Nat) (b : Byte) (c : BitVec 3) : (arriveInto d b c s).later = s.later := rfl

/-! After `s.raise f`. -/

@[simp] theorem raise_op (f : BitVec 3) : (s.raise f).op = s.op := rfl
@[simp] theorem raise_phase (f : BitVec 3) : (s.raise f).phase = s.phase := rfl
@[simp] theorem raise_idx (f : BitVec 3) : (s.raise f).idx = s.idx := rfl
@[simp] theorem raise_argOpc (f : BitVec 3) : (s.raise f).argOpc = s.argOpc := rfl
@[simp] theorem raise_argFb (f : BitVec 3) : (s.raise f).argFb = s.argFb := rfl
@[simp] theorem raise_argP1 (f : BitVec 3) : (s.raise f).argP1 = s.argP1 := rfl
@[simp] theorem raise_argP2 (f : BitVec 3) : (s.raise f).argP2 = s.argP2 := rfl
@[simp] theorem raise_strict (f : BitVec 3) : (s.raise f).strict = s.strict := rfl
@[simp] theorem raise_tmo (f : BitVec 3) : (s.raise f).tmo = s.tmo := rfl
@[simp] theorem raise_err (f : BitVec 3) : (s.raise f).err = errAfter s.err f 0 := rfl
@[simp] theorem raise_result (f : BitVec 3) : (s.raise f).result = s.result := rfl
@[simp] theorem raise_rkind (f : BitVec 3) : (s.raise f).rkind = s.rkind := rfl
@[simp] theorem raise_rxlen (f : BitVec 3) : (s.raise f).rxlen = s.rxlen := rfl
@[simp] theorem raise_dstat (f : BitVec 3) : (s.raise f).dstat = s.dstat := rfl
@[simp] theorem raise_txbuf (f : BitVec 3) : (s.raise f).txbuf = s.txbuf := rfl
@[simp] theorem raise_rxbuf (f : BitVec 3) : (s.raise f).rxbuf = s.rxbuf := rfl
@[simp] theorem raise_decOpc (f : BitVec 3) : (s.raise f).decOpc = s.decOpc := rfl
@[simp] theorem raise_decFb (f : BitVec 3) : (s.raise f).decFb = s.decFb := rfl
@[simp] theorem raise_decP1 (f : BitVec 3) : (s.raise f).decP1 = s.decP1 := rfl
@[simp] theorem raise_decP2 (f : BitVec 3) : (s.raise f).decP2 = s.decP2 := rfl
@[simp] theorem raise_decCkh (f : BitVec 3) : (s.raise f).decCkh = s.decCkh := rfl
@[simp] theorem raise_decCkl (f : BitVec 3) : (s.raise f).decCkl = s.decCkl := rfl
@[simp] theorem raise_rxq (f : BitVec 3) : (s.raise f).rxq = s.rxq := rfl
@[simp] theorem raise_txwire (f : BitVec 3) : (s.raise f).txwire = s.txwire := rfl
@[simp] theorem raise_evlog (f : BitVec 3) : (s.raise f).evlog = s.evlog := rfl
@[simp] theorem raise_hostData (f : BitVec 3) : (s.raise f).hostData = s.hostData := rfl
@[simp] theorem raise_line (f : BitVec 3) : (s.raise f).line = s.line := rfl
@[simp] theorem raise_level (f : BitVec 3) : (s.raise f).level = s.level := rfl
@[simp] theorem raise_agenda (f : BitVec 3) : (s.raise f).agenda = s.agenda := rfl
@[simp] theorem raise_later (f : BitVec 3) : (s.raise f).later = s.later := rfl

/-! After `s.writeErr v`. -/

@[simp] theorem writeErr_op (v : Byte) : (s.writeErr v).op = s.op := rfl
@[simp] theorem writeErr_phase (v : Byte) : (s.writeErr v).phase = s.phase := rfl
@[simp] theorem writeErr_idx (v : Byte) : (s.writeErr v).idx = s.idx := rfl
@[simp] theorem writeErr_argOpc (v : Byte) : (s.writeErr v).argOpc = s.argOpc := rfl
@[simp] theorem writeErr_argFb (v : Byte) : (s.writeErr v).argFb = s.argFb := rfl
@[simp] theorem writeErr_argP1 (v : Byte) : (s.writeErr v).argP1 = s.argP1 := rfl
@[simp] theorem writeErr_argP2 (v : Byte) : (s.writeErr v).argP2 = s.argP2 := rfl
@[simp] theorem writeErr_strict (v : Byte) : (s.writeErr v).strict = s.strict := rfl
@[simp] theorem writeErr_tmo (v : Byte) : (s.writeErr v).tmo = s.tmo := rfl
@[simp] theorem writeErr_err (v : Byte) : (s.writeErr v).err = errAfter s.err 0 (v.setWidth 3) := rfl
@[simp] theorem writeErr_result (v : Byte) : (s.writeErr v).result = s.result := rfl
@[simp] theorem writeErr_rkind (v : Byte) : (s.writeErr v).rkind = s.rkind := rfl
@[simp] theorem writeErr_rxlen (v : Byte) : (s.writeErr v).rxlen = s.rxlen := rfl
@[simp] theorem writeErr_dstat (v : Byte) : (s.writeErr v).dstat = s.dstat := rfl
@[simp] theorem writeErr_txbuf (v : Byte) : (s.writeErr v).txbuf = s.txbuf := rfl
@[simp] theorem writeErr_rxbuf (v : Byte) : (s.writeErr v).rxbuf = s.rxbuf := rfl
@[simp] theorem writeErr_decOpc (v : Byte) : (s.writeErr v).decOpc = s.decOpc := rfl
@[simp] theorem writeErr_decFb (v : Byte) : (s.writeErr v).decFb = s.decFb := rfl
@[simp] theorem writeErr_decP1 (v : Byte) : (s.writeErr v).decP1 = s.decP1 := rfl
@[simp] theorem writeErr_decP2 (v : Byte) : (s.writeErr v).decP2 = s.decP2 := rfl
@[simp] theorem writeErr_decCkh (v : Byte) : (s.writeErr v).decCkh = s.decCkh := rfl
@[simp] theorem writeErr_decCkl (v : Byte) : (s.writeErr v).decCkl = s.decCkl := rfl
@[simp] theorem writeErr_rxq (v : Byte) : (s.writeErr v).rxq = s.rxq := rfl
@[simp] theorem writeErr_txwire (v : Byte) : (s.writeErr v).txwire = s.txwire := rfl
@[simp] theorem writeErr_evlog (v : Byte) : (s.writeErr v).evlog = s.evlog := rfl
@[simp] theorem writeErr_hostData (v : Byte) : (s.writeErr v).hostData = s.hostData := rfl
@[simp] theorem writeErr_line (v : Byte) : (s.writeErr v).line = s.line := rfl
@[simp] theorem writeErr_level (v : Byte) : (s.writeErr v).level = s.level := rfl
@[simp] theorem writeErr_agenda (v : Byte) : (s.writeErr v).agenda = s.agenda := rfl
@[simp] theorem writeErr_later (v : Byte) : (s.writeErr v).later = s.later := rfl

/-! After `countWait s`. -/

@[simp] theorem countWait_op : (countWait s).op = s.op := rfl
@[simp] theorem countWait_phase : (countWait s).phase = s.phase := rfl
@[simp] theorem countWait_idx : (countWait s).idx = s.idx := rfl
@[simp] theorem countWait_argOpc : (countWait s).argOpc = s.argOpc := rfl
@[simp] theorem countWait_argFb : (countWait s).argFb = s.argFb := rfl
@[simp] theorem countWait_argP1 : (countWait s).argP1 = s.argP1 := rfl
@[simp] theorem countWait_argP2 : (countWait s).argP2 = s.argP2 := rfl
@[simp] theorem countWait_strict : (countWait s).strict = s.strict := rfl
@[simp] theorem countWait_tmo : (countWait s).tmo = s.tmo := rfl
@[simp] theorem countWait_err : (countWait s).err = s.err := rfl
@[simp] theorem countWait_result : (countWait s).result = s.result := rfl
@[simp] theorem countWait_rkind : (countWait s).rkind = s.rkind := rfl
@[simp] theorem countWait_rxlen : (countWait s).rxlen = s.rxlen := rfl
@[simp] theorem countWait_dstat : (countWait s).dstat = s.dstat := rfl
@[simp] theorem countWait_txbuf : (countWait s).txbuf = s.txbuf := rfl
@[simp] theorem countWait_rxbuf : (countWait s).rxbuf = s.rxbuf := rfl
@[simp] theorem countWait_decOpc : (countWait s).decOpc = s.decOpc := rfl
@[simp] theorem countWait_decFb : (countWait s).decFb = s.decFb := rfl
@[simp] theorem countWait_decP1 : (countWait s).decP1 = s.decP1 := rfl
@[simp] theorem countWait_decP2 : (countWait s).decP2 = s.decP2 := rfl
@[simp] theorem countWait_decCkh : (countWait s).decCkh = s.decCkh := rfl
@[simp] theorem countWait_decCkl : (countWait s).decCkl = s.decCkl := rfl
@[simp] theorem countWait_rxq : (countWait s).rxq = s.rxq := rfl
@[simp] theorem countWait_txwire : (countWait s).txwire = s.txwire := rfl
@[simp] theorem countWait_evlog : (countWait s).evlog = s.evlog := rfl
@[simp] theorem countWait_hostData : (countWait s).hostData = s.hostData := rfl
@[simp] theorem countWait_line : (countWait s).line = { s.line with toCount := if s.waiting then s.line.toCount + 1 else 0 } := rfl
@[simp] theorem countWait_level : (countWait s).level = s.level := rfl
@[simp] theorem countWait_agenda : (countWait s).agenda = s.agenda := rfl
@[simp] theorem countWait_later : (countWait s).later = s.later := rfl

/-! After `clearWait s`. -/

@[simp] theorem clearWait_op : (clearWait s).op = s.op := rfl
@[simp] theorem clearWait_phase : (clearWait s).phase = s.phase := rfl
@[simp] theorem clearWait_idx : (clearWait s).idx = s.idx := rfl
@[simp] theorem clearWait_argOpc : (clearWait s).argOpc = s.argOpc := rfl
@[simp] theorem clearWait_argFb : (clearWait s).argFb = s.argFb := rfl
@[simp] theorem clearWait_argP1 : (clearWait s).argP1 = s.argP1 := rfl
@[simp] theorem clearWait_argP2 : (clearWait s).argP2 = s.argP2 := rfl
@[simp] theorem clearWait_strict : (clearWait s).strict = s.strict := rfl
@[simp] theorem clearWait_tmo : (clearWait s).tmo = s.tmo := rfl
@[simp] theorem clearWait_err : (clearWait s).err = s.err := rfl
@[simp] theorem clearWait_result : (clearWait s).result = s.result := rfl
@[simp] theorem clearWait_rkind : (clearWait s).rkind = s.rkind := rfl
@[simp] theorem clearWait_rxlen : (clearWait s).rxlen = s.rxlen := rfl
@[simp] theorem clearWait_dstat : (clearWait s).dstat = s.dstat := rfl
@[simp] theorem clearWait_txbuf : (clearWait s).txbuf = s.txbuf := rfl
@[simp] theorem clearWait_rxbuf : (clearWait s).rxbuf = s.rxbuf := rfl
@[simp] theorem clearWait_decOpc : (clearWait s).decOpc = s.decOpc := rfl
@[simp] theorem clearWait_decFb : (clearWait s).decFb = s.decFb := rfl
@[simp] theorem clearWait_decP1 : (clearWait s).decP1 = s.decP1 := rfl
@[simp] theorem clearWait_decP2 : (clearWait s).decP2 = s.decP2 := rfl
@[simp] theorem clearWait_decCkh : (clearWait s).decCkh = s.decCkh := rfl
@[simp] theorem clearWait_decCkl : (clearWait s).decCkl = s.decCkl := rfl
@[simp] theorem clearWait_rxq : (clearWait s).rxq = s.rxq := rfl
@[simp] theorem clearWait_txwire : (clearWait s).txwire = s.txwire := rfl
@[simp] theorem clearWait_evlog : (clearWait s).evlog = s.evlog := rfl
@[simp] theorem clearWait_hostData : (clearWait s).hostData = s.hostData := rfl
@[simp] theorem clearWait_line : (clearWait s).line = { s.line with toCount := 0 } := rfl
@[simp] theorem clearWait_level : (clearWait s).level = s.level := rfl
@[simp] theorem clearWait_agenda : (clearWait s).agenda = s.agenda := rfl
@[simp] theorem clearWait_later : (clearWait s).later = s.later := rfl

/-! After `s.turnSpent`. -/

/-- Only the model's own schedule is touched. -/
theorem turnSpent_eq : s.turnSpent = { s with agenda := s.turnSpent.agenda, later := s.turnSpent.later } := by
  unfold State.turnSpent
  split <;> rfl

@[simp] theorem turnSpent_op : s.turnSpent.op = s.op := by rw [turnSpent_eq]
@[simp] theorem turnSpent_phase : s.turnSpent.phase = s.phase := by rw [turnSpent_eq]
@[simp] theorem turnSpent_idx : s.turnSpent.idx = s.idx := by rw [turnSpent_eq]
@[simp] theorem turnSpent_argOpc : s.turnSpent.argOpc = s.argOpc := by rw [turnSpent_eq]
@[simp] theorem turnSpent_argFb : s.turnSpent.argFb = s.argFb := by rw [turnSpent_eq]
@[simp] theorem turnSpent_argP1 : s.turnSpent.argP1 = s.argP1 := by rw [turnSpent_eq]
@[simp] theorem turnSpent_argP2 : s.turnSpent.argP2 = s.argP2 := by rw [turnSpent_eq]
@[simp] theorem turnSpent_strict : s.turnSpent.strict = s.strict := by rw [turnSpent_eq]
@[simp] theorem turnSpent_tmo : s.turnSpent.tmo = s.tmo := by rw [turnSpent_eq]
@[simp] theorem turnSpent_err : s.turnSpent.err = s.err := by rw [turnSpent_eq]
@[simp] theorem turnSpent_result : s.turnSpent.result = s.result := by rw [turnSpent_eq]
@[simp] theorem turnSpent_rkind : s.turnSpent.rkind = s.rkind := by rw [turnSpent_eq]
@[simp] theorem turnSpent_rxlen : s.turnSpent.rxlen = s.rxlen := by rw [turnSpent_eq]
@[simp] theorem turnSpent_dstat : s.turnSpent.dstat = s.dstat := by rw [turnSpent_eq]
@[simp] theorem turnSpent_txbuf : s.turnSpent.txbuf = s.txbuf := by rw [turnSpent_eq]
@[simp] theorem turnSpent_rxbuf : s.turnSpent.rxbuf = s.rxbuf := by rw [turnSpent_eq]
@[simp] theorem turnSpent_decOpc : s.turnSpent.decOpc = s.decOpc := by rw [turnSpent_eq]
@[simp] theorem turnSpent_decFb : s.turnSpent.decFb = s.decFb := by rw [turnSpent_eq]
@[simp] theorem turnSpent_decP1 : s.turnSpent.decP1 = s.decP1 := by rw [turnSpent_eq]
@[simp] theorem turnSpent_decP2 : s.turnSpent.decP2 = s.decP2 := by rw [turnSpent_eq]
@[simp] theorem turnSpent_decCkh : s.turnSpent.decCkh = s.decCkh := by rw [turnSpent_eq]
@[simp] theorem turnSpent_decCkl : s.turnSpent.decCkl = s.decCkl := by rw [turnSpent_eq]
@[simp] theorem turnSpent_rxq : s.turnSpent.rxq = s.rxq := by rw [turnSpent_eq]
@[simp] theorem turnSpent_txwire : s.turnSpent.txwire = s.txwire := by rw [turnSpent_eq]
@[simp] theorem turnSpent_evlog : s.turnSpent.evlog = s.evlog := by rw [turnSpent_eq]
@[simp] theorem turnSpent_hostData : s.turnSpent.hostData = s.hostData := by rw [turnSpent_eq]
@[simp] theorem turnSpent_line : s.turnSpent.line = s.line := by rw [turnSpent_eq]
@[simp] theorem turnSpent_level : s.turnSpent.level = s.level := by rw [turnSpent_eq]

/-- With turns on the agenda the next is the first of them. -/
theorem turnSpent_agenda (t : Turn) (ts : List Turn) (h : s.agenda = t :: ts) :
    s.nextTurn = t ∧ s.turnSpent = { s with agenda := ts } := by
  simp [State.nextTurn, State.turnSpent, h]

/-- With nothing more from outside the next turn is the block's own, and it is taken in the state as it is. -/
theorem turnSpent_quiet (ha : s.agenda = []) (hl : s.later = .quiet) : s.nextTurn = s.ownTurn ∧ s.turnSpent = s := by
  simp [State.nextTurn, State.turnSpent, ha, hl]

/-- With the agenda used up, repeated turns begin anew. -/
theorem turnSpent_again (t : Turn) (ts : List Turn) (ha : s.agenda = []) (hl : s.later = .again t ts) :
    s.nextTurn = t ∧ s.turnSpent = { s with agenda := ts } := by
  simp [State.nextTurn, State.turnSpent, ha, hl]

/-- With the agenda used up, an unknown sequence goes on by one turn. -/
theorem turnSpent_free (n : Nat) (ha : s.agenda = []) (hl : s.later = .free n) :
    s.nextTurn = Config.laterTurn n ∧ s.turnSpent = { s with later := .free (n + 1) } := by
  simp [State.nextTurn, State.turnSpent, ha, hl]

end Sys2Proof.Machine
end

