-- ==== Sys2Proof/Laws/Ops.lean ====
section
/-!
SUPPORT. Laws/Ops.lean: for each shared operation, once, everything it can do.
-/

namespace Sys2Proof.Machine

/-! Buffers. -/

@[simp] theorem get_zero (i : Nat) : Buf8.zero.get i = 0 := by
  simp [Buf8.get, Buf8.zero]

theorem get_set_same (f : Buf8) (i : Nat) (b : Byte) (h : i < 8) : (f.set i b).get i = b := by
  have : i = 0 ∨ i = 1 ∨ i = 2 ∨ i = 3 ∨ i = 4 ∨ i = 5 ∨ i = 6 ∨ i = 7 := by omega
  rcases this with rfl | rfl | rfl | rfl | rfl | rfl | rfl | rfl <;> rfl

theorem get_set_other (f : Buf8) (i j : Nat) (b : Byte) (h : i ≠ j) : (f.set i b).get j = f.get j := by
  by_cases hi : i < 8
  · have : i = 0 ∨ i = 1 ∨ i = 2 ∨ i = 3 ∨ i = 4 ∨ i = 5 ∨ i = 6 ∨ i = 7 := by omega
    rcases this with rfl | rfl | rfl | rfl | rfl | rfl | rfl | rfl <;>
      simp [Buf8.set, Buf8.get, h.symm]
  · have : f.set i b = f := by
      unfold Buf8.set
      iterate 8 rw [if_neg (by omega)]
    rw [this]

theorem toList_length (f : Buf8) : f.toList.length = 8 := rfl

/-! The codec and the decode status (`41_codec.md` rules R81, R84). -/

/-- The two checksum bytes are the checksum, high byte first. -/
theorem highByte_append_lowByte (ck : BitVec 16) : highByte ck ++ lowByte ck = ck := by
  apply BitVec.eq_of_toNat_eq
  have := ck.isLt
  rw [BitVec.toNat_append, ← Nat.shiftLeft_add_eq_or_of_lt (by exact (lowByte ck).isLt)]
  simp [highByte, lowByte, Nat.shiftRight_eq_div_pow, Nat.shiftLeft_eq]
  omega

/-- The five bits of the decode status. -/
theorem dstatOf_bits (f : Buf8) (n : BitVec 4) :
    (dstatOf f n).getLsbD 0 = startOk f ∧ (dstatOf f n).getLsbD 1 = endOk f ∧ (dstatOf f n).getLsbD 2 = lenOk n ∧
      (dstatOf f n).getLsbD 3 = ckOk f ∧ (dstatOf f n).getLsbD 4 = frameValid f n := by
  unfold dstatOf frameValid
  cases startOk f <;> cases endOk f <;> cases lenOk n <;> cases ckOk f <;> decide

/-- The unrecognised arm is taken whether or not the frame is usable. -/
@[simp] theorem armTaken_falsy (s : State) : s.armTaken .falsy = .falsy := by
  simp [State.armTaken]

/-- EV_OTHER is emitted whether or not the frame is usable. -/
@[simp] theorem classEmitted_other (s : State) : s.classEmitted .other = .other := by
  simp [State.classEmitted]

/-! The parameters (`00_scope.md` rule R5). -/

theorem eight_le_rxqDepth : 8 ≤ Config.rxqDepth := Nat.le_max_left _ _

theorem startup_distinct : Config.startup.distinct = true := by
  unfold Config.startup
  split
  · assumption
  · rfl

/-! The end of a frame read (`43_exchange.md` rule R120). -/

theorem endFrameRead_drainRx (a : ReplyArm) (c : EvClass) (s : State) (h : s.phase = .drainRx) :
    endFrameRead a c s = { classifyAs c (decodeStep s) with phase := .drainTest } := by
  simp [endFrameRead, h]

theorem endFrameRead_reply (a : ReplyArm) (c : EvClass) (s : State) (h : s.phase = .rx) (ho : s.op = opXchg) :
    endFrameRead a c s = toIdle (interpretAs a (decodeStep s)) := by
  simp [endFrameRead, h, ho]

theorem endFrameRead_rxf (a : ReplyArm) (c : EvClass) (s : State) (h : s.phase = .rx) (ho : s.op ≠ opXchg) :
    endFrameRead a c s = toIdle s := by
  simp [endFrameRead, h, ho]

/-! A whole frame meets the block (`30_encoding.md` rule R64). -/

theorem meetFrame_received (o : Byte) (a : ReplyArm) (c : EvClass) (p : Payload) (s : State)
    (h : s.phase = .rx ∨ s.phase = .drainRx) :
    meetFrame o a c p s =
      endFrameRead a c { s with rxbuf := frameBytes o p, rxlen := 8 } := by
  simp [meetFrame, h, frameBytes]

theorem meetFrame_idle (o : Byte) (a : ReplyArm) (c : EvClass) (p : Payload) (s : State) (h : s.phase = .idle) :
    meetFrame o a c p s = encodeStep o p.fb p.p1 p.p2 s := by
  simp [meetFrame, h, State.atEncodePoint]

theorem meetFrame_encodePoint (o : Byte) (a : ReplyArm) (c : EvClass) (p : Payload) (s : State)
    (h : s.phase = .drainTest) (ho : s.op = opXchg) (hq : s.rxq = []) :
    meetFrame o a c p s = enterTx (encodeStep o p.fb p.p1 p.p2 s) := by
  simp [meetFrame, h, State.atEncodePoint, ho, hq]

/-- Everything `meetFrame` can do. -/
theorem meetFrame_cases (o : Byte) (a : ReplyArm) (c : EvClass) (p : Payload) (s : State) :
    ((s.phase = .rx ∨ s.phase = .drainRx) ∧
      meetFrame o a c p s = endFrameRead a c { s with rxbuf := frameBytes o p, rxlen := 8 }) ∨
    (s.phase = .drainTest ∧ s.op = opXchg ∧ s.rxq = [] ∧
      meetFrame o a c p s = enterTx (encodeStep o p.fb p.p1 p.p2 s)) ∨
    (s.phase = .idle ∧ meetFrame o a c p s = encodeStep o p.fb p.p1 p.p2 s) ∨
    meetFrame o a c p s = s := by
  by_cases hr : s.phase = .rx ∨ s.phase = .drainRx
  · exact .inl ⟨hr, meetFrame_received o a c p s hr⟩
  by_cases he : s.atEncodePoint = true
  · refine .inr (.inl ?_)
    have h : (s.phase = .drainTest ∧ s.op = opXchg) ∧ s.rxq = [] := by
      simpa [State.atEncodePoint] using he
    exact ⟨h.1.1, h.1.2, h.2, meetFrame_encodePoint o a c p s h.1.1 h.1.2 h.2⟩
  by_cases hi : s.phase = .idle
  · exact .inr (.inr (.inl ⟨hi, meetFrame_idle o a c p s hi⟩))
  · exact .inr (.inr (.inr (by simp [meetFrame, hr, he, hi])))

/-! Issue (`10_state.md` rule R21). -/

theorem issue_idle (f : State → State) (s : State) (h : s.phase = .idle) : issue f s = f s := by
  simp [issue, State.busy, h]

theorem issue_busy (f : State → State) (s : State) (h : s.phase ≠ .idle) : issue f s = s.raise errCmderr := by
  simp [issue, State.busy, h]

/-! The TX phase (`42_uart.md` rule R91). -/

theorem leaveTx_xchg (s : State) (h : s.op = opXchg) : leaveTx s = readFrameBegin { s with phase := .rx } := by
  simp [leaveTx, h]

theorem leaveTx_txf (s : State) (h : s.op ≠ opXchg) : leaveTx s = toIdle s := by
  simp [leaveTx, h]

/-- Everything TxStep can do. -/
theorem txStep_cases (s : State) :
    (s.idx + 1 = 8 ∧ txStep s = leaveTx (wireTx (s.txbuf.get s.idx.toNat) { s with idx := s.idx + 1 })) ∨
    (s.idx + 1 ≠ 8 ∧ txStep s = wireTx (s.txbuf.get s.idx.toNat) { s with idx := s.idx + 1 }) := by
  by_cases h : s.idx + 1 = 8
  · exact .inl ⟨h, if_pos h⟩
  · exact .inr ⟨h, if_neg h⟩

/-! ERR (`10_state.md` rule R24). -/

theorem errAfter_bit (e f c : BitVec 3) (i : Nat) (h : i < 3) :
    (errAfter e f c).getLsbD i = ((e.getLsbD i && !c.getLsbD i) || f.getLsbD i) := by
  simp [errAfter, h]

/-- A step that clears nothing adds its flags. -/
@[simp] theorem errAfter_set (e f : BitVec 3) : errAfter e f 0#3 = e ||| f := by
  revert e f
  decide

/-- A step that sets nothing and clears nothing leaves ERR alone. -/
@[simp] theorem errAfter_none (e : BitVec 3) : errAfter e 0#3 0#3 = e := by
  revert e
  decide

/-- Raising flags adds them to ERR. -/
theorem raise_eq (f : BitVec 3) (s : State) : s.raise f = { s with err := s.err ||| f } := by
  simp [State.raise]

/-- `Arrive` with room in the queue. -/
theorem arrive_queued (b : Byte) (s : State) (h : s.rxq.length < Config.rxqDepth) :
    arrive b s = { s with rxq := s.rxq ++ [b] } := by
  simp [arrive, arriveInto, h]

/-- `Arrive` with the queue full. -/
theorem arrive_dropped (b : Byte) (s : State) (h : Config.rxqDepth ≤ s.rxq.length) :
    arrive b s = { s with err := s.err ||| errOverrun } := by
  simp [arrive, arriveInto, Nat.not_lt.mpr h]

/-! The line level (`42_uart.md` rules R101, R102). -/

theorem nextCharacter_none (l : Line) (h : l.txHold = none) : nextCharacter l = { l with txBits := 0, txDiv := 0 } := by
  simp [nextCharacter, h]

theorem nextCharacter_some (l : Line) (b : Byte) (h : l.txHold = some b) : nextCharacter l = startCharacter b l := by
  simp [nextCharacter, h]

/-- The transmitter's clock leaves the receiver, the timeout counter and the event port alone. -/
theorem txTick_other (bc : Nat) (l : Line) :
    (txTick bc l).rxFsm = l.rxFsm ∧ (txTick bc l).rxShift = l.rxShift ∧ (txTick bc l).rxBits = l.rxBits ∧
      (txTick bc l).rxCount = l.rxCount ∧ (txTick bc l).rxPrev = l.rxPrev ∧ (txTick bc l).toCount = l.toCount ∧
      (txTick bc l).evt = l.evt := by
  unfold txTick nextCharacter startCharacter
  split_ifs <;> (try split) <;> simp

/-- The receiver's clock leaves the transmitter, the timeout counter and the event port alone. -/
theorem rxTick_other (bc : Nat) (rx : Bool) (l : Line) :
    (rxTick bc rx l).1.txHold = l.txHold ∧ (rxTick bc rx l).1.txShift = l.txShift ∧
      (rxTick bc rx l).1.txBits = l.txBits ∧ (rxTick bc rx l).1.txDiv = l.txDiv ∧
      (rxTick bc rx l).1.toCount = l.toCount ∧ (rxTick bc rx l).1.evt = l.evt := by
  unfold rxTick
  split <;> split_ifs <;> simp

/-- What a receiver's report does to the block: nothing, an `Arrive`, or FERR. -/
theorem takeReport_cases (r : RxReport) (s : State) :
    takeReport r s = s ∨ (∃ b, r = .byte b ∧ takeReport r s = arrive b s) ∨
      (r = .framing ∧ takeReport r s = s.raise errFerr) := by
  cases r with
  | nothing => exact .inl rfl
  | byte b => exact .inr (.inl ⟨b, rfl, rfl⟩)
  | framing => exact .inr (.inr ⟨rfl, rfl⟩)

/-- A reception report leaves every field but RXQ and ERR as it was. -/
theorem takeReport_other (r : RxReport) (s : State) :
    takeReport r s = { s with rxq := (takeReport r s).rxq, err := (takeReport r s).err } := by
  cases r <;> rfl

end Sys2Proof.Machine
end

