-- ==== Sys2Proof/Laws/Step.lean ====
section
/-!
SUPPORT. Laws/Step.lean: what the agents' steps can do, each said once.
-/

namespace Sys2Proof.Machine

/-! Every instruction answers a next state. -/

/-- No instruction faults or is refused. -/
theorem exec_answers (i : Instr) (s : State) : ∃ t, exec i s = .next t := by
  cases i <;> exact ⟨_, rfl⟩

/-! Whose turn it is. -/

/-- A step takes the next turn. -/
theorem step_takes (s : State) : step s = takeTurn s.nextTurn s.turnSpent := rfl

theorem step_turn (s : State) (t : Turn) (ts : List Turn) (h : s.agenda = t :: ts) :
    step s = takeTurn t { s with agenda := ts } := by
  rw [step_takes, (turnSpent_agenda s t ts h).1, (turnSpent_agenda s t ts h).2]

theorem step_own (s : State) (h : s.agenda = []) (hl : s.later = .quiet) : step s = takeTurn s.ownTurn s := by
  rw [step_takes, (turnSpent_quiet s h hl).1, (turnSpent_quiet s h hl).2]

theorem step_again (s : State) (t : Turn) (ts : List Turn) (h : s.agenda = []) (hl : s.later = .again t ts) :
    step s = takeTurn t { s with agenda := ts } := by
  rw [step_takes, (turnSpent_again s t ts h hl).1, (turnSpent_again s t ts h hl).2]

theorem ownTurn_seq (s : State) (h : s.seqEnabled = true) : s.ownTurn = .seq := by
  simp [State.ownTurn, h]

theorem ownTurn_timeout (s : State) (h : s.seqEnabled = false) (hl : s.level = .byteLevel) :
    s.ownTurn = .timeout := by
  simp [State.ownTurn, h, hl]

theorem ownTurn_clk (s : State) (h : s.seqEnabled = false) (hl : s.level = .lineLevel) :
    s.ownTurn = .clk true := by
  simp [State.ownTurn, h, hl]

/-! The host. -/

theorem hostRead_in (n : Nat) (s : State) (h : n < regCount) :
    hostRead n s = .next { s with hostData := s.readReg (regAt n) } := by
  simp [hostRead, h]

theorem hostRead_out (n : Nat) (s : State) (h : ¬n < regCount) : hostRead n s = .refused (.registerOutsideMap n) := by
  simp [hostRead, h]

theorem hostWrite_out (n : Nat) (v : Byte) (s : State) (h : ¬n < regCount) :
    hostWrite n v s = .refused (.registerOutsideMap n) := by
  simp [hostWrite, h]

theorem hostWrite_cmd (v : Byte) (s : State) : hostWrite 0 v s = writeCommand v s := rfl

theorem hostWrite_err (v : Byte) (s : State) : hostWrite 7 v s = .next (s.writeErr v) := rfl

theorem hostWrite_other (n : Nat) (v : Byte) (s : State) (h : n < regCount) (hc : regAt n ≠ .cmd)
    (he : regAt n ≠ .err) : hostWrite n v s = .next (if s.busy then s else s.writeIdle (regAt n) v) := by
  unfold hostWrite
  rw [if_pos h]
  split
  · exact absurd ‹_› hc
  · exact absurd ‹_› he
  · rfl

theorem writeCommand_known (v : Byte) (s : State) (i : Instr) (h : fetchCommand v = some i) :
    writeCommand v s = exec i s := by
  simp [writeCommand, h]

theorem writeCommand_unknown (v : Byte) (s : State) (h : fetchCommand v = none) :
    writeCommand v s = .next (s.raise errCmderr) := by
  simp [writeCommand, h]

/-! The sequencer. -/

theorem frameReadEnds_fetched (s : State) (i : Instr) (h : fetchReceived s = some i) :
    frameReadEnds s = exec i s := by
  simp [frameReadEnds, h]

theorem frameReadEnds_other (s : State) (h : fetchReceived s = none) :
    frameReadEnds s =
      .next (endFrameRead (replyArm s.rxbuf.b1) (eventClass Config.startup s.rxbuf.b1 s.rxbuf.b4) s) := by
  simp [frameReadEnds, h]

theorem encodeRequest_fetched (s : State) (i : Instr) (h : fetchRequest s = some i) : encodeRequest s = exec i s := by
  simp [encodeRequest, h]

theorem encodeRequest_other (s : State) (h : fetchRequest s = none) :
    encodeRequest s = .next (enterTx (encodeArgs s)) := by
  simp [encodeRequest, h]

theorem rxStep_empty (s : State) (h : s.rxq = []) : rxStep s = .next s := by
  simp [rxStep, h]

theorem rxStep_ends (s : State) (b : Byte) (q : List Byte) (h : s.rxq = b :: q)
    (he : (storeByte b q s).readEnds b = true) : rxStep s = frameReadEnds (storeByte b q s) := by
  simp [rxStep, h, he]

theorem rxStep_goes_on (s : State) (b : Byte) (q : List Byte) (h : s.rxq = b :: q)
    (he : (storeByte b q s).readEnds b = false) : rxStep s = .next (storeByte b q s) := by
  simp [rxStep, h, he]

theorem seqStep_disabled (s : State) (h : s.seqEnabled = false) : seqStep s = .next s := by
  simp [seqStep, h]

theorem seqStep_drainTest (s : State) (h : s.phase = .drainTest) : seqStep s = drainTestStep s := by
  simp [seqStep, State.seqEnabled, h]

theorem seqStep_tx (s : State) (h : s.phase = .tx) (hr : s.txReady = true) : seqStep s = .next (txStep s) := by
  simp [seqStep, State.seqEnabled, h, hr]

theorem seqStep_flush (s : State) (h : s.phase = .flushWait) (hd : s.txDrained = true) :
    seqStep s = .next (toIdle s) := by
  simp [seqStep, State.seqEnabled, h, hd]

/-- In a frame read the sequencer's micro-step is RxStep (which does nothing while the queue is empty). -/
theorem seqStep_reading (s : State) (h : s.phase = .rx ∨ s.phase = .drainRx) : seqStep s = rxStep s := by
  by_cases hq : s.rxq = []
  · rcases h with h | h <;> simp [seqStep, State.seqEnabled, h, hq, rxStep]
  · rcases h with h | h <;> simp [seqStep, State.seqEnabled, h, hq]

/-! The other agents. -/

theorem timerTurn_enabled (s : State) (hl : s.level = .byteLevel) (hw : s.waiting = true) :
    timerTurn s = timeoutStep s := by
  simp [timerTurn, hl, hw]

theorem timerTurn_passes (s : State) (h : ¬(s.level = .byteLevel ∧ s.waiting = true)) : timerTurn s = .next s := by
  simp [timerTurn, h]

theorem linkTurn_byteLevel (b : Byte) (c : BitVec 3) (s : State) (hl : s.level = .byteLevel) :
    linkTurn b c s = .next (arriveInto Config.rxqDepth b c s) := by
  simp [linkTurn, hl]

theorem clockTurn_lineLevel (rx : Bool) (s : State) (hl : s.level = .lineLevel) :
    clockTurn rx s = clockStep bitClocks timeoutClocks rx s := by
  simp [clockTurn, hl]

theorem clockTurn_byteLevel (rx : Bool) (s : State) (hl : s.level = .byteLevel) : clockTurn rx s = .next s := by
  simp [clockTurn, hl]

end Sys2Proof.Machine
end

