-- ==== Sys2Proof/Laws/Fetch.lean ====
section
/-!
SUPPORT. Laws/Fetch.lean: running the instruction that a frame read or XCHG's encode point fetches is the same as
following the opcode byte.
-/

namespace Sys2Proof.Machine

/-- A row of the frame table: its constructor has the row's opcode, and its meaning is the arm and the class that
opcode selects. -/
def RowFits (r : Byte × (Payload → Instr)) : Prop :=
  ∀ (p : Payload) (s : State), (r.2 p).opcodeOf = some (r.1, p) ∧
    exec (r.2 p) s = .next (meetFrame r.1 (replyArm r.1) (eventClass Config.startup r.1 p.p2) p s)

theorem frameRows_fit : ∀ r ∈ frameRows, RowFits r := by
  simp only [frameRows, List.cons_append, List.nil_append, List.forall_mem_cons]
  refine ⟨?_, ?_, ?_, ?_, ?_, ?_, ?_, ?_, ?_, ?_, ?_, ?_, ?_, ?_, ?_, ?_, ?_, ?_, ?_, ?_, ?_, ?_, ?_, ?_, ?_, ?_, ?_,
    ?_, ?_, ?_, ?_, ?_, by simp⟩ <;>
  exact fun p s => ⟨rfl, rfl⟩

/-- What a decoded frame is. -/
theorem decodeFrame_ok {f : Buf8} {i : Instr} (h : decodeFrame f = .ok i) :
    f.b0 = startMarker ∧ f.b7 = endMarker ∧
      ∃ r ∈ frameRows, r.1 = f.b1 ∧ i = r.2 ⟨f.b2, f.b3, f.b4, f.b5, f.b6⟩ := by
  unfold decodeFrame at h
  split at h
  · cases h
  split at h
  · cases h
  split at h
  · rename_i r hr
    cases h
    exact ⟨by simp_all, by simp_all, r, List.mem_of_find?_eq_some hr, by simpa using List.find?_some hr, rfl⟩
  · cases h

/-- A decoded frame's meaning is the arm and the class its opcode byte selects. -/
theorem exec_decoded {f : Buf8} {i : Instr} (h : decodeFrame f = .ok i) (s : State) :
    exec i s =
      .next (meetFrame f.b1 (replyArm f.b1) (eventClass Config.startup f.b1 f.b4) ⟨f.b2, f.b3, f.b4, f.b5, f.b6⟩ s) := by
  obtain ⟨-, -, r, hr, h1, rfl⟩ := decodeFrame_ok h
  rw [(frameRows_fit r hr _ s).2, h1]

theorem toOption_ok {α β : Type} {x : Except α β} {y : β} (h : x.toOption = some y) : x = .ok y := by
  cases x
  · cases h
  · exact congrArg _ (Option.some.inj h)

/-- The end of a frame read, whatever was fetched. -/
theorem frameReadEnds_eq (s : State) (h : s.phase = .rx ∨ s.phase = .drainRx) :
    frameReadEnds s =
      .next (endFrameRead (replyArm s.rxbuf.b1) (eventClass Config.startup s.rxbuf.b1 s.rxbuf.b4) s) := by
  unfold frameReadEnds
  split
  · rename_i i hi
    unfold fetchReceived at hi
    split at hi
    · rename_i h8
      have hd := toOption_ok hi
      obtain ⟨h0, h7, -⟩ := decodeFrame_ok hd
      rw [exec_decoded hd, meetFrame_received _ _ _ _ _ h]
      have : frameBytes s.rxbuf.b1 ⟨s.rxbuf.b2, s.rxbuf.b3, s.rxbuf.b4, s.rxbuf.b5, s.rxbuf.b6⟩ = s.rxbuf := by
        rw [frameBytes, ← h0, ← h7]
      rw [this, ← h8]
    · cases hi
  · rfl

/-- XCHG's encode point, whatever the operands are. -/
theorem encodeRequest_eq (s : State) (hp : s.phase = .drainTest) (ho : s.op = opXchg) (hq : s.rxq = []) :
    encodeRequest s = .next (enterTx (encodeArgs s)) := by
  unfold encodeRequest
  split
  · rename_i i hi
    rw [exec_decoded (toOption_ok hi), meetFrame_encodePoint _ _ _ _ _ hp ho hq]
    rfl
  · rfl

end Sys2Proof.Machine
end

