-- ==== Sys2Proof/Laws/PerInstr.lean ====
section
/-!
SUPPORT. Laws/PerInstr.lean: statements for all instructions, made per instruction.
-/

namespace Sys2Proof.Laws

/-- An instruction's encoding is one byte for a block operation and eight for a frame (`30_encoding.md` rules R60,
R68). -/
def EncodedWidth.Statement (i : Instr) : Prop :=
  (encode i).length = match i.opcodeOf with
    | some _ => 8
    | none => 1

theorem EncodedWidth.next (p : Payload) : EncodedWidth.Statement (.next p) := rfl
theorem EncodedWidth.previous (p : Payload) : EncodedWidth.Statement (.previous p) := rfl
theorem EncodedWidth.playTrackNum (p : Payload) : EncodedWidth.Statement (.playTrackNum p) := rfl
theorem EncodedWidth.volumePlus (p : Payload) : EncodedWidth.Statement (.volumePlus p) := rfl
theorem EncodedWidth.volumeMinus (p : Payload) : EncodedWidth.Statement (.volumeMinus p) := rfl
theorem EncodedWidth.volumeSet (p : Payload) : EncodedWidth.Statement (.volumeSet p) := rfl
theorem EncodedWidth.setEq (p : Payload) : EncodedWidth.Statement (.setEq p) := rfl
theorem EncodedWidth.repeatTrack (p : Payload) : EncodedWidth.Statement (.repeatTrack p) := rfl
theorem EncodedWidth.playSource (p : Payload) : EncodedWidth.Statement (.playSource p) := rfl
theorem EncodedWidth.sleep (p : Payload) : EncodedWidth.Statement (.sleep p) := rfl
theorem EncodedWidth.reset (p : Payload) : EncodedWidth.Statement (.reset p) := rfl
theorem EncodedWidth.play (p : Payload) : EncodedWidth.Statement (.play p) := rfl
theorem EncodedWidth.pause (p : Payload) : EncodedWidth.Statement (.pause p) := rfl
theorem EncodedWidth.folderAndTrack (p : Payload) : EncodedWidth.Statement (.folderAndTrack p) := rfl
theorem EncodedWidth.continuous (p : Payload) : EncodedWidth.Statement (.continuous p) := rfl
theorem EncodedWidth.stop (p : Payload) : EncodedWidth.Statement (.stop p) := rfl
theorem EncodedWidth.randomTrack (p : Payload) : EncodedWidth.Statement (.randomTrack p) := rfl
theorem EncodedWidth.singlePlay (p : Payload) : EncodedWidth.Statement (.singlePlay p) := rfl
theorem EncodedWidth.sourceInsert (p : Payload) : EncodedWidth.Statement (.sourceInsert p) := rfl
theorem EncodedWidth.sourceRemoved (p : Payload) : EncodedWidth.Statement (.sourceRemoved p) := rfl
theorem EncodedWidth.usbDone (p : Payload) : EncodedWidth.Statement (.usbDone p) := rfl
theorem EncodedWidth.usdDone (p : Payload) : EncodedWidth.Statement (.usdDone p) := rfl
theorem EncodedWidth.startup (p : Payload) : EncodedWidth.Statement (.startup p) := rfl
theorem EncodedWidth.nak (p : Payload) : EncodedWidth.Statement (.nak p) := rfl
theorem EncodedWidth.ack (p : Payload) : EncodedWidth.Statement (.ack p) := rfl
theorem EncodedWidth.queryVolume (p : Payload) : EncodedWidth.Statement (.queryVolume p) := rfl
theorem EncodedWidth.queryEq (p : Payload) : EncodedWidth.Statement (.queryEq p) := rfl
theorem EncodedWidth.queryTracksUsb (p : Payload) : EncodedWidth.Statement (.queryTracksUsb p) := rfl
theorem EncodedWidth.queryTracksUsd (p : Payload) : EncodedWidth.Statement (.queryTracksUsd p) := rfl
theorem EncodedWidth.queryCurTrackUsb (p : Payload) : EncodedWidth.Statement (.queryCurTrackUsb p) := rfl
theorem EncodedWidth.queryCurTrackUsd (p : Payload) : EncodedWidth.Statement (.queryCurTrackUsd p) := rfl
theorem EncodedWidth.queryTracksInFolder (p : Payload) : EncodedWidth.Statement (.queryTracksInFolder p) := rfl
theorem EncodedWidth.enc : EncodedWidth.Statement .enc := rfl
theorem EncodedWidth.dec : EncodedWidth.Statement .dec := rfl
theorem EncodedWidth.txf : EncodedWidth.Statement .txf := rfl
theorem EncodedWidth.rxf : EncodedWidth.Statement .rxf := rfl
theorem EncodedWidth.drn : EncodedWidth.Statement .drn := rfl
theorem EncodedWidth.xchg : EncodedWidth.Statement .xchg := rfl
theorem EncodedWidth.flush : EncodedWidth.Statement .flush := rfl

end Sys2Proof.Laws
end

