-- ==== Sys2Proof/Laws/Turns.lean ====
section
/-!
SUPPORT. Laws/Turns.lean: everything one step can do, said once.
-/

namespace Sys2Proof.Machine

/-- The state when a frame read ends in `s`. -/
def readEnd (s : State) : State :=
  endFrameRead (replyArm s.rxbuf.b1) (eventClass Config.startup s.rxbuf.b1 s.rxbuf.b4) s

/-- `Moves t s u`: the turn `t`, taken in `s`, may lead to `u`. -/
inductive Moves : Turn → State → State → Prop where
  | pass (t : Turn) (s : State) : Moves t s s
  | read (n : Nat) (s : State) (h : n < regCount) : Moves (.hostRead n) s { s with hostData := s.readReg (regAt n) }
  | cmderr (v : Byte) (s : State) : Moves (.hostWrite 0 v) s (s.raise errCmderr)
  | enc (s : State) (h : s.phase = .idle) : Moves (.hostWrite 0 1) s (encodeArgs s)
  | dec (s : State) (h : s.phase = .idle) : Moves (.hostWrite 0 2) s (decodeStep s)
  | txf (s : State) (h : s.phase = .idle) : Moves (.hostWrite 0 3) s (beginTxf s)
  | rxf (s : State) (h : s.phase = .idle) : Moves (.hostWrite 0 4) s (beginRxf s)
  | drn (s : State) (h : s.phase = .idle) : Moves (.hostWrite 0 5) s (beginDrn s)
  | xchg (s : State) (h : s.phase = .idle) : Moves (.hostWrite 0 6) s (beginXchg s)
  | flush (s : State) (h : s.phase = .idle) : Moves (.hostWrite 0 7) s (beginFlush s)
  | errWrite (v : Byte) (s : State) : Moves (.hostWrite 7 v) s (s.writeErr v)
  | idleWrite (n : Nat) (v : Byte) (s : State) (h : s.phase = .idle) (hn : n < regCount) (hc : n ≠ 0) (he : n ≠ 7) :
      Moves (.hostWrite n v) s (s.writeIdle (regAt n) v)
  | drainDone (s : State) (h : s.phase = .drainTest) (ho : s.op ≠ opXchg) (hq : s.rxq = []) : Moves .seq s (toIdle s)
  | encode (s : State) (h : s.phase = .drainTest) (ho : s.op = opXchg) (hq : s.rxq = []) :
      Moves .seq s (enterTx (encodeArgs s))
  | drainTurn (s : State) (h : s.phase = .drainTest) (hq : s.rxq ≠ []) :
      Moves .seq s (readFrameBegin { s with phase := .drainRx })
  | store (s : State) (b : Byte) (q : List Byte) (h : s.phase = .rx ∨ s.phase = .drainRx) (hq : s.rxq = b :: q)
      (he : (storeByte b q s).readEnds b = false) : Moves .seq s (storeByte b q s)
  | storeLast (s : State) (b : Byte) (q : List Byte) (h : s.phase = .rx ∨ s.phase = .drainRx) (hq : s.rxq = b :: q)
      (he : (storeByte b q s).readEnds b = true) : Moves .seq s (readEnd (storeByte b q s))
  | send (s : State) (h : s.phase = .tx) (hr : s.txReady = true) : Moves .seq s (txStep s)
  | flushed (s : State) (h : s.phase = .flushWait) (hd : s.txDrained = true) : Moves .seq s (toIdle s)
  | arrive (b : Byte) (s : State) (hl : s.level = .byteLevel) :
      Moves (.arrive b) s (arriveInto Config.rxqDepth b 0 s)
  | arriveClear (b v : Byte) (s : State) (hl : s.level = .byteLevel) :
      Moves (.arriveAndErrWrite b v) s (arriveInto Config.rxqDepth b (v.setWidth 3) s)
  | timeout (s : State) (hl : s.level = .byteLevel) (hw : s.waiting = true) :
      Moves .timeout s (readEnd { s with tmo := true })
  | rst (s : State) : Moves .rst s (resetBlock s)
  | clock (rx : Bool) (s : State) (hl : s.level = .lineLevel) :
      Moves (.clk rx) s (countWait (lineTick bitClocks rx s))
  | clockTimeout (rx : Bool) (s : State) (hl : s.level = .lineLevel)
      (hw : (countWait (lineTick bitClocks rx s)).waitExpired timeoutClocks = true) :
      Moves (.clk rx) s (readEnd { clearWait (countWait (lineTick bitClocks rx s)) with tmo := true })

theorem waiting_phase {s : State} (h : s.waiting = true) : (s.phase = .rx ∨ s.phase = .drainRx) ∧ s.rxq = [] := by
  simpa [State.waiting] using h

/-- In a frame read, RxStep stores, stores and ends, or passes. -/
theorem moves_rxStep {s u : State} (hp : s.phase = .rx ∨ s.phase = .drainRx) (h : rxStep s = .next u) :
    Moves .seq s u := by
  unfold rxStep at h
  split at h
  · cases h
    exact .pass _ _
  · rename_i b q hq
    split at h
    · rw [frameReadEnds_eq (storeByte b q s) hp] at h
      cases h
      exact .storeLast _ _ _ hp hq ‹_›
    · cases h
      exact .store _ _ _ hp hq (Bool.eq_false_iff.mpr ‹_›)

/-- Everything the sequencer's micro-step can do. -/
theorem moves_seqStep {s u : State} (h : seqStep s = .next u) : Moves .seq s u := by
  by_cases hs : s.seqEnabled = true
  swap
  · rw [seqStep_disabled _ (Bool.eq_false_iff.mpr hs)] at h
    cases h
    exact .pass _ _
  have hs' := hs
  unfold State.seqEnabled at hs'
  unfold seqStep at h
  rw [if_pos hs] at h
  split at hs' <;> rename_i hp <;> rw [hp] at h
  · cases hs'
  · change drainTestStep s = _ at h
    unfold drainTestStep at h
    split at h
    · rename_i hq
      have hq := List.isEmpty_iff.mp hq
      split at h
      · rw [encodeRequest_eq _ hp ‹_› hq] at h
        cases h
        exact .encode _ hp ‹_› hq
      · cases h
        exact .drainDone _ hp ‹_› hq
    · cases h
      exact .drainTurn _ hp (by simpa using ‹¬s.rxq.isEmpty = true›)
  · exact moves_rxStep (.inr hp) h
  · exact moves_rxStep (.inl hp) h
  · cases h
    exact .send _ hp hs'
  · cases h
    exact .flushed _ hp hs'

/-- Everything a write to CMD can do. -/
theorem moves_writeCommand {s u : State} {v : Byte} (h : writeCommand v s = .next u) : Moves (.hostWrite 0 v) s u := by
  unfold writeCommand at h
  split at h
  · rename_i i hi
    have hd := toOption_ok hi
    unfold decodeCommand at hd
    split at hd
    · rename_i r hr
      have hm := List.mem_of_find?_eq_some hr
      have hv : r.1 = v := by simpa using List.find?_some hr
      cases hd
      subst hv
      by_cases hb : s.phase = .idle
      · simp only [commandRows, List.mem_cons, List.not_mem_nil, or_false] at hm
        rcases hm with rfl | rfl | rfl | rfl | rfl | rfl | rfl <;>
          simp only [exec, execEnc, execDec, execTxf, execRxf, execDrn, execXchg, execFlush, issue_idle _ _ hb] at h <;>
          cases h
        · exact .enc _ hb
        · exact .dec _ hb
        · exact .txf _ hb
        · exact .rxf _ hb
        · exact .drn _ hb
        · exact .xchg _ hb
        · exact .flush _ hb
      · simp only [commandRows, List.mem_cons, List.not_mem_nil, or_false] at hm
        rcases hm with rfl | rfl | rfl | rfl | rfl | rfl | rfl <;>
          simp only [exec, execEnc, execDec, execTxf, execRxf, execDrn, execXchg, execFlush, issue_busy _ _ hb] at h <;>
          cases h <;> exact .cmderr _ _
    · cases hd
  · cases h
    exact .cmderr _ _

/-- Only number 0 is CMD and only number 7 is ERR. -/
theorem regAt_cmd_err : ∀ n, n < regCount → (regAt n = .cmd → n = 0) ∧ (regAt n = .err → n = 7) := by decide

/-- Everything a turn can do. -/
theorem moves_takeTurn {t : Turn} {s u : State} (h : takeTurn t s = .next u) : Moves t s u := by
  cases t with
  | hostRead n =>
    simp only [takeTurn, hostRead] at h
    split at h
    · cases h
      exact .read _ _ ‹_›
    · cases h
  | hostWrite n v =>
    simp only [takeTurn] at h
    by_cases hn : n < regCount
    swap
    · rw [hostWrite_out _ _ _ hn] at h
      cases h
    by_cases hc : n = 0
    · subst hc
      exact moves_writeCommand h
    by_cases he : n = 7
    · subst he
      cases h
      exact .errWrite _ _
    · rw [hostWrite_other _ _ _ hn (fun a => hc ((regAt_cmd_err n hn).1 a))
        (fun a => he ((regAt_cmd_err n hn).2 a))] at h
      cases h
      by_cases hb : s.phase = .idle
      · rw [if_neg (by simp [State.busy, hb])]
        exact .idleWrite _ _ _ hb hn hc he
      · rw [if_pos (by simp [State.busy, hb])]
        exact .pass _ _
  | seq => exact moves_seqStep h
  | arrive b =>
    simp only [takeTurn, linkTurn] at h
    split at h <;> cases h
    · exact .arrive _ _ ‹_›
    · exact .pass _ _
  | arriveAndErrWrite b v =>
    simp only [takeTurn, linkTurn] at h
    split at h <;> cases h
    · exact .arriveClear _ _ _ ‹_›
    · exact .pass _ _
  | timeout =>
    simp only [takeTurn, timerTurn] at h
    split at h
    · rename_i hw
      rw [timeoutStep, frameReadEnds_eq { s with tmo := true } (waiting_phase hw.2).1] at h
      cases h
      exact .timeout _ hw.1 hw.2
    · cases h
      exact .pass _ _
  | rst =>
    cases h
    exact .rst _
  | clk rx =>
    simp only [takeTurn, clockTurn] at h
    split at h
    · simp only [clockStep] at h
      split at h
      · rename_i hl hw
        have hp : (countWait (lineTick bitClocks rx s)).waiting = true := by
          simp only [State.waitExpired, Bool.and_eq_true] at hw
          exact hw.1
        rw [timeoutStep, frameReadEnds_eq { clearWait (countWait (lineTick bitClocks rx s)) with tmo := true }
          (waiting_phase hp).1] at h
        cases h
        exact .clockTimeout _ _ hl hw
      · cases h
        exact .clock _ _ ‹_›
    · cases h
      exact .pass _ _

/-- Everything a step can do: what its turn can do, in the state with that turn spent. -/
theorem moves_step {s u : State} (h : step s = .next u) : Moves s.nextTurn s.turnSpent u := moves_takeTurn h

end Sys2Proof.Machine
end

