-- ==== Sys2Proof/Tests/Slice0.lean ====
section
/-!
SUPPORT. Tests/Slice0.lean: tests of the model. Expected results come from `95_test_vectors.md` (the vector is named)
or are worked out by hand from the rule named. The witnesses at the end show that the hypotheses of the statements can
be met.
-/

namespace Sys2Proof.Tests

open Sys2Proof Sys2Proof.Machine

/-- The next state, if there is one. -/
def next? : Out → Option State
  | .next t => some t
  | .fault _ => none
  | .refused _ => none

/-! Well-formedness: one ill-formed instruction for each check (`41_codec.md` rule R81). -/

theorem test_wellFormed_accepts :
    (Instr.play ⟨0x01, 0x00, 0x00, 0xFF, 0xF2⟩).wellFormed = true ∧ Instr.xchg.wellFormed = true := by decide

theorem test_wellFormed_checksumHigh : (Instr.play ⟨0x01, 0x00, 0x00, 0xFE, 0xF2⟩).wellFormed = false := by decide

theorem test_wellFormed_checksumLow : (Instr.play ⟨0x01, 0x00, 0x00, 0xFF, 0xF3⟩).wellFormed = false := by decide

/-! Decoding, one word for each constructor. -/

/-- 95_test_vectors.md E1 to E9. -/
theorem test_decode_control_1 :
    decode [0x7E, 0x01, 0x01, 0x00, 0x00, 0xFF, 0xFE, 0xEF] =
      .ok (.next ⟨0x01, 0x00, 0x00, 0xFF, 0xFE⟩) ∧
    decode [0x7E, 0x02, 0x01, 0x00, 0x00, 0xFF, 0xFD, 0xEF] =
      .ok (.previous ⟨0x01, 0x00, 0x00, 0xFF, 0xFD⟩) ∧
    decode [0x7E, 0x03, 0x01, 0x00, 0x07, 0xFF, 0xF5, 0xEF] =
      .ok (.playTrackNum ⟨0x01, 0x00, 0x07, 0xFF, 0xF5⟩) ∧
    decode [0x7E, 0x04, 0x01, 0x00, 0x00, 0xFF, 0xFB, 0xEF] =
      .ok (.volumePlus ⟨0x01, 0x00, 0x00, 0xFF, 0xFB⟩) ∧
    decode [0x7E, 0x05, 0x01, 0x00, 0x00, 0xFF, 0xFA, 0xEF] =
      .ok (.volumeMinus ⟨0x01, 0x00, 0x00, 0xFF, 0xFA⟩) ∧
    decode [0x7E, 0x06, 0x01, 0x00, 0x0A, 0xFF, 0xEF, 0xEF] =
      .ok (.volumeSet ⟨0x01, 0x00, 0x0A, 0xFF, 0xEF⟩) ∧
    decode [0x7E, 0x07, 0x01, 0x00, 0x02, 0xFF, 0xF6, 0xEF] =
      .ok (.setEq ⟨0x01, 0x00, 0x02, 0xFF, 0xF6⟩) ∧
    decode [0x7E, 0x08, 0x01, 0x00, 0x03, 0xFF, 0xF4, 0xEF] =
      .ok (.repeatTrack ⟨0x01, 0x00, 0x03, 0xFF, 0xF4⟩) ∧
    decode [0x7E, 0x09, 0x01, 0x00, 0x02, 0xFF, 0xF4, 0xEF] =
      .ok (.playSource ⟨0x01, 0x00, 0x02, 0xFF, 0xF4⟩) := by
  decide

/-- 95_test_vectors.md E10 to E18. -/
theorem test_decode_control_2 :
    decode [0x7E, 0x0A, 0x01, 0x00, 0x00, 0xFF, 0xF5, 0xEF] =
      .ok (.sleep ⟨0x01, 0x00, 0x00, 0xFF, 0xF5⟩) ∧
    decode [0x7E, 0x0C, 0x01, 0x00, 0x00, 0xFF, 0xF3, 0xEF] =
      .ok (.reset ⟨0x01, 0x00, 0x00, 0xFF, 0xF3⟩) ∧
    decode [0x7E, 0x0D, 0x01, 0x00, 0x00, 0xFF, 0xF2, 0xEF] =
      .ok (.play ⟨0x01, 0x00, 0x00, 0xFF, 0xF2⟩) ∧
    decode [0x7E, 0x0E, 0x01, 0x00, 0x00, 0xFF, 0xF1, 0xEF] =
      .ok (.pause ⟨0x01, 0x00, 0x00, 0xFF, 0xF1⟩) ∧
    decode [0x7E, 0x0F, 0x01, 0x02, 0x05, 0xFF, 0xE9, 0xEF] =
      .ok (.folderAndTrack ⟨0x01, 0x02, 0x05, 0xFF, 0xE9⟩) ∧
    decode [0x7E, 0x11, 0x01, 0x00, 0x00, 0xFF, 0xEE, 0xEF] =
      .ok (.continuous ⟨0x01, 0x00, 0x00, 0xFF, 0xEE⟩) ∧
    decode [0x7E, 0x16, 0x01, 0x00, 0x00, 0xFF, 0xE9, 0xEF] =
      .ok (.stop ⟨0x01, 0x00, 0x00, 0xFF, 0xE9⟩) ∧
    decode [0x7E, 0x18, 0x01, 0x00, 0x00, 0xFF, 0xE7, 0xEF] =
      .ok (.randomTrack ⟨0x01, 0x00, 0x00, 0xFF, 0xE7⟩) ∧
    decode [0x7E, 0x19, 0x01, 0x00, 0x00, 0xFF, 0xE6, 0xEF] =
      .ok (.singlePlay ⟨0x01, 0x00, 0x00, 0xFF, 0xE6⟩) := by
  decide

/-- 95_test_vectors.md E19 to E25. -/
theorem test_decode_query :
    decode [0x7E, 0x43, 0x01, 0x00, 0x00, 0xFF, 0xBC, 0xEF] =
      .ok (.queryVolume ⟨0x01, 0x00, 0x00, 0xFF, 0xBC⟩) ∧
    decode [0x7E, 0x44, 0x01, 0x00, 0x00, 0xFF, 0xBB, 0xEF] =
      .ok (.queryEq ⟨0x01, 0x00, 0x00, 0xFF, 0xBB⟩) ∧
    decode [0x7E, 0x47, 0x01, 0x00, 0x00, 0xFF, 0xB8, 0xEF] =
      .ok (.queryTracksUsb ⟨0x01, 0x00, 0x00, 0xFF, 0xB8⟩) ∧
    decode [0x7E, 0x48, 0x01, 0x00, 0x00, 0xFF, 0xB7, 0xEF] =
      .ok (.queryTracksUsd ⟨0x01, 0x00, 0x00, 0xFF, 0xB7⟩) ∧
    decode [0x7E, 0x4B, 0x00, 0x00, 0x09, 0xFF, 0xAC, 0xEF] =
      .ok (.queryCurTrackUsb ⟨0x00, 0x00, 0x09, 0xFF, 0xAC⟩) ∧
    decode [0x7E, 0x4C, 0x00, 0x00, 0xC8, 0xFE, 0xEC, 0xEF] =
      .ok (.queryCurTrackUsd ⟨0x00, 0x00, 0xC8, 0xFE, 0xEC⟩) ∧
    decode [0x7E, 0x4E, 0x01, 0x00, 0x02, 0xFF, 0xAF, 0xEF] =
      .ok (.queryTracksInFolder ⟨0x01, 0x00, 0x02, 0xFF, 0xAF⟩) := by
  decide

/-- 95_test_vectors.md E26 to E32. -/
theorem test_decode_reply_notify :
    decode [0x7E, 0x41, 0x00, 0x00, 0x00, 0xFF, 0xBF, 0xEF] =
      .ok (.ack ⟨0x00, 0x00, 0x00, 0xFF, 0xBF⟩) ∧
    decode [0x7E, 0x40, 0x01, 0x01, 0x01, 0xFF, 0xBD, 0xEF] =
      .ok (.nak ⟨0x01, 0x01, 0x01, 0xFF, 0xBD⟩) ∧
    decode [0x7E, 0x3A, 0x00, 0x00, 0x01, 0xFF, 0xC5, 0xEF] =
      .ok (.sourceInsert ⟨0x00, 0x00, 0x01, 0xFF, 0xC5⟩) ∧
    decode [0x7E, 0x3B, 0x00, 0x00, 0x02, 0xFF, 0xC3, 0xEF] =
      .ok (.sourceRemoved ⟨0x00, 0x00, 0x02, 0xFF, 0xC3⟩) ∧
    decode [0x7E, 0x3C, 0x00, 0x00, 0x01, 0xFF, 0xC3, 0xEF] =
      .ok (.usbDone ⟨0x00, 0x00, 0x01, 0xFF, 0xC3⟩) ∧
    decode [0x7E, 0x3D, 0x00, 0x00, 0x07, 0xFF, 0xBC, 0xEF] =
      .ok (.usdDone ⟨0x00, 0x00, 0x07, 0xFF, 0xBC⟩) ∧
    decode [0x7E, 0x3F, 0x00, 0x00, 0x03, 0xFF, 0xBE, 0xEF] =
      .ok (.startup ⟨0x00, 0x00, 0x03, 0xFF, 0xBE⟩) := by
  decide

/-- `30_encoding.md` rule R68. -/
theorem test_decode_commands :
    decode [0x01] = .ok .enc ∧ decode [0x02] = .ok .dec ∧ decode [0x03] = .ok .txf ∧ decode [0x04] = .ok .rxf ∧
      decode [0x05] = .ok .drn ∧ decode [0x06] = .ok .xchg ∧ decode [0x07] = .ok .flush := by
  decide

/-- Refusals: unknown commands, bad markers, the unlisted opcode 0x3E, a bad length (`30_encoding.md` rules R60, R65,
R68). -/
theorem test_decode_refuses :
    decode [0x08] = .error (.unknownCommand 0x08) ∧
    decode [0x7F, 0x41, 0, 0, 0, 0xFF, 0xBF, 0xEF] = .error (.badStart 0x7F) ∧
    decode [0x7E, 0x41, 0, 0, 0, 0xFF, 0xBF, 0xEE] = .error (.badEnd 0xEE) ∧
    decode [0x7E, 0x3E, 0, 0, 0, 0xFF, 0xC2, 0xEF] = .error (.unlistedOpcode 0x3E) ∧
    decode [0x7E, 0x41] = .error (.badLength 2) := by
  decide

/-- The table's numbering: byte 0 of a frame in bits 63:56 (`00_scope.md` rule R7). -/
theorem test_table_words :
    decodeTableWord 64 0x7E0F010205FFE9EF = some (.folderAndTrack ⟨0x01, 0x02, 0x05, 0xFF, 0xE9⟩) ∧
      decodeTableWord 8 0x06 = some .xchg ∧ decodeTableWord 64 0x7E0F010205FFE9EE = none := by
  decide

theorem test_encode :
    encode (.queryCurTrackUsd ⟨0x00, 0x00, 0xC8, 0xFE, 0xEC⟩) = [0x7E, 0x4C, 0x00, 0x00, 0xC8, 0xFE, 0xEC, 0xEF] ∧
      encode .flush = [0x07] := by
  decide

/-! The codec. -/

/-- E33, E34, E24, E39: the truncated sum, the largest sum, a high byte 0xFE, a low byte equal to the end marker. -/
theorem test_cksum :
    cksum 0 0 0 0 = 0x0000 ∧ cksum 0xFF 0xFF 0xFF 0xFF = 0xFC04 ∧ cksum 0x4C 0 0 0xC8 = 0xFEEC ∧
      cksum 0x41 0 0 0xD0 = 0xFEEF := by
  decide

/-- D1 to D5, D8, D15. -/
theorem test_dstat :
    dstatOf ⟨0x7E, 0x41, 0, 0, 0, 0xFF, 0xBF, 0xEF⟩ 8 = 0b11111 ∧
    dstatOf ⟨0x7E, 0x41, 0, 0, 0, 0xFF, 0xBE, 0xEF⟩ 8 = 0b00111 ∧
    dstatOf ⟨0x7F, 0x41, 0, 0, 0, 0xFF, 0xBF, 0xEF⟩ 8 = 0b01110 ∧
    dstatOf ⟨0x7E, 0x41, 0, 0, 0, 0xFF, 0xBF, 0xEE⟩ 8 = 0b01101 ∧
    dstatOf ⟨0x7E, 0x41, 0, 0, 0, 0xFF, 0xBF, 0xEF⟩ 5 = 0b01011 ∧
    dstatOf ⟨0x7E, 0, 0, 0, 0, 0, 0, 0xEF⟩ 8 = 0b11111 ∧
    dstatOf ⟨0x7E, 0x41, 0, 0, 0xD0, 0xFE, 0xEF, 0⟩ 7 = 0b01001 := by
  decide

/-! One step of an operation. -/

/-- Idle, the host about to write `v` to register `n`. -/
def writing (n : Nat) (v : Byte) (s : State) : State := { s with agenda := [.hostWrite n v] }

/-- In the last RxStep of a read: seven bytes of `f` are stored and the eighth is in the queue. -/
def lastStep (p : Phase) (o : BitVec 4) (f : Buf8) : State :=
  { State.reset with
    phase := p, op := o, rxbuf := { f with b7 := 0 }, rxlen := 7, rxq := [f.b7], agenda := [.seq] }

/-- RESULT and RKIND after XCHG's reply read takes the frame `f`. -/
def reply (strict : Bool) (f : Buf8) : Option (Byte × RKind) :=
  (next? (step { lastStep .rx 6 f with strict := strict })).map fun t => (t.result, t.rkind)

/-- The event records after DRN's drain turn takes the frame `f`. -/
def drained (strict : Bool) (f : Buf8) : Option (List Event) :=
  (next? (step { lastStep .drainRx 5 f with strict := strict })).map State.evlog

/-- E14. -/
theorem test_enc :
    (next? (step (writing 0 1 { State.reset with argOpc := 0x0F, argFb := 1, argP1 := 2, argP2 := 5 }))).map State.txbuf =
      some ⟨0x7E, 0x0F, 0x01, 0x02, 0x05, 0xFF, 0xE9, 0xEF⟩ := by
  decide

/-- D9. -/
theorem test_dec :
    (next? (step (writing 0 2 { State.reset with
      rxbuf := ⟨0x7E, 0x48, 0x00, 0x01, 0x2C, 0xFF, 0x8B, 0xEF⟩, rxlen := 8 }))).map
        (fun t => [t.decOpc, t.decFb, t.decP1, t.decP2, t.decCkh, t.decCkl]) =
      some [0x48, 0x00, 0x01, 0x2C, 0xFF, 0x8B] := by
  decide

/-- The issue steps (`43_exchange.md` rule R120). -/
theorem test_issue :
    (next? (step (writing 0 3 State.reset))).map (fun t => (t.op, t.phase)) = some (3, .tx) ∧
    (next? (step (writing 0 4 State.reset))).map (fun t => (t.op, t.phase)) = some (4, .rx) ∧
    (next? (step (writing 0 5 State.reset))).map (fun t => (t.op, t.phase)) = some (5, .drainTest) ∧
    (next? (step (writing 0 6 State.reset))).map (fun t => (t.op, t.phase)) = some (6, .drainTest) ∧
    (next? (step (writing 0 7 State.reset))).map (fun t => (t.op, t.phase)) = some (7, .flushWait) := by
  decide

/-- X2 to X4, X12, X14, X15, X25, X26: ACK, ACK with a wrong checksum in both modes, NAK, a query reply, a notification
and an echo taken as the reply. -/
theorem test_replies :
    reply false ⟨0x7E, 0x41, 0, 0, 0, 0xFF, 0xBF, 0xEF⟩ = some (0x01, .ack) ∧
    reply false ⟨0x7E, 0x41, 0x12, 0x34, 0x56, 0, 0, 0xEF⟩ = some (0x01, .ack) ∧
    reply true ⟨0x7E, 0x41, 0x12, 0x34, 0x56, 0, 0, 0xEF⟩ = some (0x00, .noReply) ∧
    reply false ⟨0x7E, 0x40, 0, 0, 0, 0xFF, 0xC0, 0xEF⟩ = some (0x00, .nakCode) ∧
    reply true ⟨0x7E, 0x40, 0, 0, 4, 0xFF, 0xBD, 0xEF⟩ = some (0x00, .noReply) ∧
    reply false ⟨0x7E, 0x43, 0, 0, 0x14, 0xFF, 0xA9, 0xEF⟩ = some (0x14, .value) ∧
    reply false ⟨0x7E, 0x3D, 0, 0, 7, 0xFF, 0xBC, 0xEF⟩ = some (0x00, .noReply) ∧
    reply false ⟨0x7E, 0x0D, 1, 0, 0, 0xFF, 0xF2, 0xEF⟩ = some (0x00, .noReply) := by
  decide

/-- N2, N6, N8, N14, N15, N17, N18. -/
theorem test_events :
    drained false ⟨0x7E, 0x3A, 0, 0, 1, 0xFF, 0xC5, 0xEF⟩ = some [⟨.insertUsb, 0x3A, 0x01, 0b11111⟩] ∧
    drained false ⟨0x7E, 0x3B, 0, 0, 2, 0xFF, 0xC3, 0xEF⟩ = some [⟨.removeCard, 0x3B, 0x02, 0b11111⟩] ∧
    drained false ⟨0x7E, 0x3D, 0, 0, 7, 0xFF, 0xBC, 0xEF⟩ = some [⟨.cardDone, 0x3D, 0x07, 0b11111⟩] ∧
    drained false ⟨0x7E, 0x41, 0, 0, 0, 0xFF, 0xBF, 0xEF⟩ = some [⟨.other, 0x41, 0x00, 0b11111⟩] ∧
    drained false ⟨0x7E, 0x3E, 0, 0, 0, 0xFF, 0xC2, 0xEF⟩ = some [⟨.other, 0x3E, 0x00, 0b11111⟩] ∧
    drained false ⟨0x7E, 0x3A, 0, 0, 1, 0xFF, 0xC4, 0xEF⟩ = some [⟨.insertUsb, 0x3A, 0x01, 0b00111⟩] ∧
    drained true ⟨0x7E, 0x3A, 0, 0, 1, 0xFF, 0xC4, 0xEF⟩ = some [⟨.other, 0x3A, 0x01, 0b00111⟩] := by
  decide

/-- N9 to N13, under the default sub-state bytes. -/
theorem test_startup_classes :
    [(0 : Byte), 1, 2, 3, 9].map (startupClass StartupCodes.default0123) =
      [.startupNone, .startupUsb, .startupCard, .startupBoth, .startupUnk] := by
  decide

/-- D13: a frame that is not one of the table still follows its opcode byte (N22, `FE CA EF`). -/
theorem test_short_frame :
    (next? (step { State.reset with
      phase := .drainRx, op := 5, rxbuf := ⟨0xFE, 0xCA, 0, 0, 0, 0, 0, 0⟩, rxlen := 2, rxq := [0xEF], agenda := [.seq] })).map
        (fun t => (t.evlog, t.phase)) = some ([⟨.other, 0xCA, 0x00, 0b00000⟩], .drainTest) := by
  decide

/-- R162: a count of 239 cuts the reply at its para2; the value is right in compat mode and rejected in strict mode, and
the tail stays queued. -/
theorem test_cut_reply :
    let s : State := { State.reset with
      phase := .rx, op := 6, rxbuf := ⟨0x7E, 0x47, 0, 0, 0, 0, 0, 0⟩, rxlen := 4, rxq := [0xEF, 0xFE, 0xCA, 0xEF] }
    (next? (step s)).map (fun t => (t.result, t.rkind, t.rxlen, t.rxq)) = some (0xEF, .value, 5, [0xFE, 0xCA, 0xEF]) ∧
      (next? (step { s with strict := true })).map (fun t => (t.result, t.rkind)) = some (0x00, .noReply) := by
  decide

/-- X1: the silent device, the timeout being the block's own turn. -/
theorem test_timeout :
    (next? (step { State.reset with phase := .rx, op := 6, result := 7 })).map
        (fun t => (t.tmo, t.result, t.rkind, t.dstat)) = some (true, 0x00, .noReply, 0b01000) := by
  decide

/-- R258: a schedule that comes again and again keeps XCHG in its drain. -/
theorem test_endless_schedule :
    let s : State := { State.reset with phase := .drainTest, op := 6, rxq := [1], later := .again .seq [.arrive 1] }
    (next? (step s)).map (fun t => (t.phase, t.agenda, t.later)) = some (.drainRx, [.arrive 1], .again .seq [.arrive 1]) ∧
      ({ s with agenda := [.arrive 1] } : State).turnSpent.nextTurn = .seq := by
  decide

/-! The host interface. -/

/-- H2, H4, H5, H8, H10, H12. -/
theorem test_host :
    (next? (step (writing 0 8 State.reset))).map State.err = some 0b100 ∧
    (next? (step (writing 0 6 { State.reset with phase := .rx, op := 6 }))).map (fun t => (t.err, t.phase, t.op)) =
      some (0b100, .rx, 6) ∧
    next? (step (writing 1 0x43 { State.reset with phase := .rx, op := 6, argOpc := 0x0D })) =
      some { State.reset with phase := .rx, op := 6, argOpc := 0x0D } ∧
    (next? (step (writing 7 1 { State.reset with err := 0b101 }))).map State.err = some 0b100 ∧
    (next? (step (writing 5 0xFF State.reset))).map (fun t => t.readReg (regAt 5)) = some 0x01 ∧
    next? (step (writing 0x10 0x55 State.reset)) = some State.reset := by
  decide

/-- RXCNT saturates at 255 (H11; `10_state.md` rule R26). -/
theorem test_rxcnt : ({ State.reset with rxq := List.replicate 300 0 } : State).rxcnt = 0xFF := by
  show BitVec.ofNat 8 (min (List.replicate 300 (0 : Byte)).length 255) = 0xFF
  rw [List.length_replicate]
  rfl

/-- H7, and U16: no register above 0x3F. -/
theorem test_host_read :
    (next? (step { State.reset with phase := .rx, op := 6, agenda := [.hostRead 6] })).map State.hostData = some 0x01 ∧
      step { State.reset with agenda := [.hostRead 0x40] } = .refused (.registerOutsideMap 0x40) :=
  ⟨by decide, rfl⟩

/-- F4, F7. -/
theorem test_facade :
    (FacadeOp.setVolume 31).request? = some (0x06, 0x00, 0x1E) ∧
      (FacadeOp.playFolderTrack 2 5).request? = some (0x0F, 0x02, 0x05) := by
  decide

/-- A write while the queue is at its capacity (N23, with a capacity of two). -/
theorem test_overrun :
    (arriveInto 2 0x33 0 { State.reset with rxq := [0x11, 0x22] }).rxq = [0x11, 0x22] ∧
      (arriveInto 2 0x33 0b001 { State.reset with rxq := [0x11, 0x22] }).err = 0b001 ∧
      (arriveInto 2 0x22 0 { State.reset with rxq := [0x11] }).rxq = [0x11, 0x22] := by
  decide

/-! The line level. -/

/-- The character 0x01: start bit low, the least significant bit first, stop bit high (`42_uart.md` rule R100). -/
theorem test_character :
    (List.range 10).map (characterBits 0x01).getLsbD =
      [false, true, false, false, false, false, false, false, false, true] := by
  decide

/-- A character of two clocks a bit is received; a low stop bit is a framing error (`42_uart.md` rule R102). -/
theorem test_receiver :
    (rxTicks 2 (characterLevels 2 0xA5) Line.idle).2 = [.byte 0xA5] ∧
      (rxTicks 2 (List.replicate 20 false) Line.idle).2 = [.framing] := by
  decide

/-! Witnesses: for each statement with hypotheses, concrete states and operands that meet them, for each clause. -/

/-- The payload of a well-formed PLAY. -/
def playPayload : Payload := ⟨0x01, 0x00, 0x00, 0xFF, 0xF2⟩

/-- An idle block, at byte level, the host about to issue operation `c`, and `q` in the queue. -/
def issuing (c : Byte) (q : List Byte) : State := { State.reset with rxq := q, agenda := [.hostWrite 0x00 c] }

/-- A block in phase `p` of operation `o`. -/
def inPhase (p : Phase) (o : BitVec 4) : State := { State.reset with phase := p, op := o }

theorem witness_OnlyListedOpcodesDecode :
    let f : Buf8 := ⟨0x7E, 0x4E, 0, 0, 0, 0, 0, 0xEF⟩
    let g : Buf8 := ⟨0x7E, 0x0B, 0, 0, 0, 0, 0, 0xEF⟩
    f.b0 = 0x7E ∧ f.b7 = 0xEF ∧ f.b1 ∈ ([0x4E] : List Byte) ∧ g.b0 = 0x7E ∧ g.b7 = 0xEF ∧
      g.b1 ∉ ([0x01, 0x02, 0x03, 0x04, 0x05, 0x06, 0x07, 0x08, 0x09, 0x0A, 0x0C, 0x0D, 0x0E, 0x0F, 0x11, 0x16, 0x18,
        0x19, 0x3A, 0x3B, 0x3C, 0x3D, 0x3F, 0x40, 0x41, 0x43, 0x44, 0x47, 0x48, 0x4B, 0x4C, 0x4E] : List Byte) := by
  decide

theorem witness_ChecksumOfEverySum : payloadSum 0 0 0 0 = 0 ∧ 1 ≤ payloadSum 1 0 0 0 := by decide

theorem witness_ChecksumLaws : payloadSum 0x07 0x01 0x00 0x02 = payloadSum 0x0A 0x00 0x00 0x00 := by decide

theorem witness_EncBuildsRequestFrame :
    State.reset.phase = .idle ∧ (writing 0 1 State.reset).phase = .idle ∧
      (writing 0 1 State.reset).nextTurn = .hostWrite 0x00 0x01 := ⟨rfl, rfl, rfl⟩

theorem witness_DecWritesFieldsAndStatus : State.reset.phase = .idle := rfl

theorem witness_DecodeRecoversEncodedFrame :
    let s : State := { State.reset with rxbuf := mkFrame 0x0F 1 2 5, rxlen := 8 }
    s.phase = .idle ∧ s.rxbuf = mkFrame 0x0F 1 2 5 ∧ s.rxlen = 8 := ⟨rfl, rfl, rfl⟩

theorem witness_IssueStepsBeginOperations : State.reset.phase = .idle := rfl

theorem witness_TxfSendsBufferInOrder :
    (issuing 3 []).phase = .idle ∧ (issuing 3 []).level = .byteLevel ∧ (issuing 3 []).agenda = [.hostWrite 0x00 0x03] ∧
      (issuing 3 []).later = .quiet :=
  ⟨rfl, rfl, rfl, rfl⟩

theorem witness_FlushWaitsForTransmitter :
    let s : State := { inPhase .flushWait 7 with level := .lineLevel }
    let t : State := { s with line := { Line.idle with txBits := 1 } }
    (issuing 7 []).phase = .idle ∧ (issuing 7 []).level = .byteLevel ∧ (issuing 7 []).agenda = [.hostWrite 0x00 0x07] ∧
      (issuing 7 []).later = .quiet ∧ s.phase = .flushWait ∧ s.level = .lineLevel ∧ (s.line.txHold = none ∧ s.line.txBits = 0) ∧
      t.phase = .flushWait ∧ t.level = .lineLevel ∧ ¬(t.line.txHold = none ∧ t.line.txBits = 0) := by
  decide

/-- Two frames that a byte ended, the shortest and the longest, and a partial one. -/
theorem frames_end :
    endedFrame [0xEF] ∧ endedFrame [0x7E, 0x41, 0, 0, 0, 0xFF, 0xBF, 0x00] ∧ partialFrame [0x7E, 0x41] ∧
      partialFrame [] := by
  unfold endedFrame partialFrame
  decide

theorem witness_RxfReadsOneFrame :
    let s := issuing 4 [0xEF, 0x7E]
    s.phase = .idle ∧ s.level = .byteLevel ∧ s.agenda = [.hostWrite 0x00 0x04] ∧ s.later = .quiet ∧
      s.rxq = [0xEF] ++ [0x7E] ∧ endedFrame [0xEF] := ⟨rfl, rfl, rfl, rfl, rfl, frames_end.1⟩

theorem witness_RxfEndsByTimeout :
    let s := issuing 4 [0x7E, 0x41]
    s.phase = .idle ∧ s.level = .byteLevel ∧ s.agenda = [.hostWrite 0x00 0x04] ∧ s.later = .quiet ∧
      partialFrame s.rxq :=
  ⟨rfl, rfl, rfl, rfl, frames_end.2.2.1⟩

theorem witness_DrnReportsEveryQueuedFrame :
    let frames : List (List Byte) := [[0x7E, 0x41, 0, 0, 0, 0xFF, 0xBF, 0x00], [0xEF]]
    let s := issuing 5 [0x7E, 0x41, 0, 0, 0, 0xFF, 0xBF, 0x00, 0xEF]
    s.phase = .idle ∧ s.level = .byteLevel ∧ s.agenda = [.hostWrite 0x00 0x05] ∧ s.later = .quiet ∧
      (∀ f ∈ frames, endedFrame f) ∧ s.rxq = frames.flatten ∧ frames.getLast? = some [0xEF] :=
  ⟨rfl, rfl, rfl, rfl, by simpa using And.intro frames_end.2.1 frames_end.1, rfl, rfl⟩

theorem witness_DrnReportsPartialFrame :
    let s := issuing 5 [0x7E, 0x41]
    s.phase = .idle ∧ s.level = .byteLevel ∧ s.agenda = [.hostWrite 0x00 0x05] ∧ s.later = .quiet ∧
      s.rxq ≠ [] ∧ partialFrame s.rxq :=
  ⟨rfl, rfl, rfl, rfl, by decide, frames_end.2.2.1⟩

theorem witness_XchgTurnsReplyIntoResult :
    let f : List Byte := [0xEF]
    let s : State := { State.reset with agenda := .hostWrite 0x00 0x06 :: (List.replicate 9 .seq ++ f.map .arrive) }
    s.phase = .idle ∧ s.level = .byteLevel ∧ s.rxq = [] ∧ endedFrame f ∧
      s.agenda = .hostWrite 0x00 0x06 :: (List.replicate 9 .seq ++ f.map .arrive) ∧ s.later = .quiet :=
  ⟨rfl, rfl, rfl, frames_end.1, rfl, rfl⟩

theorem witness_XchgTimesOut :
    let f : List Byte := []
    let s : State := { State.reset with agenda := .hostWrite 0x00 0x06 :: (List.replicate 9 .seq ++ f.map .arrive) }
    s.phase = .idle ∧ s.level = .byteLevel ∧ s.rxq = [] ∧ partialFrame f ∧
      s.agenda = .hostWrite 0x00 0x06 :: (List.replicate 9 .seq ++ f.map .arrive) ∧ s.later = .quiet :=
  ⟨rfl, rfl, rfl, frames_end.2.2.2, rfl, rfl⟩

/-- A frame pending; the same drain under arrivals without end; a drain test that finds a byte, and a drain turn. -/
theorem witness_XchgDrainsBeforeItSends :
    let frames : List (List Byte) := [[0xEF]]
    let s := issuing 6 [0xEF]
    let e : State := { inPhase .drainTest 6 with later := .again (.arrive 0x7E) (.seq :: [0xEF].flatMap fun c => [.arrive c, .seq]) }
    let d : State := { inPhase .drainTest 6 with rxq := [0x7E] }
    (s.phase = .idle ∧ s.level = .byteLevel ∧ (∀ f ∈ frames, endedFrame f) ∧ s.rxq = frames.flatten ∧
      s.agenda = [.hostWrite 0x00 0x06] ∧ s.later = .quiet) ∧
    (e.level = .byteLevel ∧ e.phase = .drainTest ∧ e.agenda = [] ∧
      e.later = .again (.arrive 0x7E) (.seq :: [0xEF].flatMap fun c => [.arrive c, .seq])) ∧
    (d.phase = .drainTest ∧ d.rxq ≠ [] ∧ d.nextTurn ≠ .rst ∧ ∃ t, step d = .next t) ∧
    ((inPhase .drainRx 6).phase = .drainRx ∧ (inPhase .drainRx 6).nextTurn ≠ .rst ∧
      ∃ t, step (inPhase .drainRx 6) = .next t) :=
  ⟨⟨rfl, rfl, by simpa using frames_end.1, rfl, rfl, rfl⟩, ⟨rfl, rfl, rfl, rfl⟩,
    ⟨rfl, by decide, by decide, _, rfl⟩, rfl, by decide, _, rfl⟩

/-- The phases in which the statements about frame opcodes speak: idle, XCHG's encode point, XCHG's reply read, a drain
turn, an RXF read, and the others; and a frame valid in strict mode. -/
theorem witness_frame_phases :
    State.reset.phase = .idle ∧
    ((inPhase .drainTest 6).phase = .drainTest ∧ (inPhase .drainTest 6).op = 6 ∧ (inPhase .drainTest 6).rxq = []) ∧
    ((inPhase .rx 6).phase = .rx ∧ (inPhase .rx 6).op = 6) ∧ (inPhase .drainRx 5).phase = .drainRx ∧
    ((inPhase .rx 4).phase = .rx ∧ (inPhase .rx 4).op ≠ 6) ∧
    ((inPhase .drainTest 5).phase = .drainTest ∧ ¬((inPhase .drainTest 5).op = 6 ∧ (inPhase .drainTest 5).rxq = [])) ∧
    (inPhase .tx 6).phase = .tx ∧ (inPhase .flushWait 7).phase = .flushWait ∧
    frameValid (frameBytes 0x0D playPayload) 8 = true := by
  decide

theorem witness_ControlOpcodes :
    let p := playPayload
    ((0x0D : Byte), Instr.play p) ∈ [((0x01 : Byte), Instr.next p), (0x02, .previous p), (0x03, .playTrackNum p),
      (0x04, .volumePlus p), (0x05, .volumeMinus p), (0x06, .volumeSet p), (0x07, .setEq p), (0x08, .repeatTrack p),
      (0x09, .playSource p), (0x0A, .sleep p), (0x0C, .reset p), (0x0D, .play p), (0x0E, .pause p),
      (0x0F, .folderAndTrack p), (0x11, .continuous p), (0x16, .stop p), (0x18, .randomTrack p),
      (0x19, .singlePlay p)] ∧
    State.reset.phase = .idle ∧ (inPhase .drainTest 6).phase = .drainTest ∧ (inPhase .drainTest 6).op = 6 ∧
      (inPhase .drainTest 6).rxq = [] ∧ (inPhase .rx 6).phase = .rx ∧ (inPhase .rx 6).op = 6 ∧
      (inPhase .drainRx 6).phase = .drainRx := by
  decide

theorem witness_QueryOpcodes :
    let p : Payload := ⟨0x01, 0x00, 0x00, 0xFF, 0xBC⟩
    ((0x43 : Byte), Instr.queryVolume p) ∈ [((0x43 : Byte), Instr.queryVolume p), (0x44, .queryEq p),
      (0x47, .queryTracksUsb p), (0x48, .queryTracksUsd p), (0x4B, .queryCurTrackUsb p), (0x4C, .queryCurTrackUsd p),
      (0x4E, .queryTracksInFolder p)] ∧
    (inPhase .rx 6).phase = .rx ∧ (inPhase .rx 6).op = 6 ∧ (inPhase .rx 6).strict = false ∧
      frameValid (frameBytes 0x43 p) 8 = true ∧ State.reset.phase = .idle ∧ (inPhase .drainRx 6).phase = .drainRx ∧
      (inPhase .drainTest 6).phase = .drainTest := by
  decide

theorem witness_AckAndNakOpcodes :
    let p : Payload := ⟨0x00, 0x00, 0x00, 0xFF, 0xBF⟩
    ((0x41 : Byte), Instr.ack p, (0x01 : Byte), RKind.ack) ∈
      [((0x41 : Byte), Instr.ack p, (0x01 : Byte), RKind.ack), (0x40, .nak p, p.p2, .nakCode)] ∧
    (inPhase .rx 6).phase = .rx ∧ (inPhase .rx 6).op = 6 ∧ (inPhase .rx 6).strict = false ∧
      frameValid (frameBytes 0x41 p) 8 = true ∧ State.reset.phase = .idle ∧ (inPhase .drainRx 6).phase = .drainRx := by
  decide

theorem witness_NotificationOpcodes :
    let p : Payload := ⟨0x00, 0x00, 0x01, 0xFF, 0xC3⟩
    ((0x3C : Byte), Instr.usbDone p, EvClass.usbDone) ∈ [
      ((0x3A : Byte), Instr.sourceInsert p,
        if p.p2 = 1 then EvClass.insertUsb else if p.p2 = 2 then .insertCard else .insertUnk),
      (0x3B, .sourceRemoved p, if p.p2 = 1 then .removeUsb else if p.p2 = 2 then .removeCard else .removeUnk),
      (0x3C, .usbDone p, .usbDone), (0x3D, .usdDone p, .cardDone),
      (0x3F, .startup p,
        if p.p2 = Config.startup.none then .startupNone else if p.p2 = Config.startup.usb then .startupUsb
        else if p.p2 = Config.startup.card then .startupCard else if p.p2 = Config.startup.both then .startupBoth
        else .startupUnk)] ∧
    (inPhase .drainRx 5).phase = .drainRx ∧ (inPhase .drainRx 5).strict = false ∧
      frameValid (frameBytes 0x3C p) 8 = true ∧ State.reset.phase = .idle ∧ (inPhase .rx 6).op = 6 :=
  ⟨.tail _ (.tail _ (.head _)), by decide⟩

theorem witness_FrameOpcodesElsewhere :
    encode (.play playPayload) = (frameBytes 0x0D playPayload).toList ∧ (inPhase .drainTest 6).rxq = [] ∧
      (inPhase .rx 4).op ≠ 6 ∧ (inPhase .tx 6).phase = .tx := by
  decide

theorem witness_FrameEndFollowsOpcodeByte :
    (inPhase .drainRx 5).phase = .drainRx ∧ (inPhase .rx 6).op = 6 ∧ (inPhase .rx 4).op ≠ 6 := by
  decide

/-- Two reply reads that end with the same opcode and parameter and differ in everything else that was read. -/
theorem witness_CompatResultDependsOnTwoBytes :
    let s : State := { inPhase .rx 6 with rxbuf := ⟨0x7E, 0x43, 0, 0, 0x14, 0xFF, 0xA9, 0xEF⟩, rxlen := 8 }
    let s' : State := { inPhase .rx 6 with rxbuf := ⟨0, 0x43, 9, 9, 0x14, 0xEF, 0, 0⟩, rxlen := 6, tmo := true }
    s.strict = false ∧ s'.strict = false ∧ s.phase = .rx ∧ s'.phase = .rx ∧ s.op = 6 ∧ s'.op = 6 ∧
      s.rxbuf.b1 = s'.rxbuf.b1 ∧ s.rxbuf.b4 = s'.rxbuf.b4 ∧ (∃ t, frameReadEnds s = .next t) ∧
      ∃ t', frameReadEnds s' = .next t' :=
  ⟨rfl, rfl, rfl, rfl, rfl, rfl, rfl, rfl, ⟨_, rfl⟩, ⟨_, rfl⟩⟩

theorem witness_StrictModeRejectsInvalidFrames :
    let s : State := { inPhase .rx 6 with strict := true, rxbuf := ⟨0x7E, 0x41, 0, 0, 0, 0, 0, 0⟩, rxlen := 2 }
    let s' : State := { s with phase := .drainRx }
    s.strict = true ∧ s.rxbuf.b7 ≠ 0xEF ∧ (∃ t, frameReadEnds s = .next t) ∧ ∃ t, frameReadEnds s' = .next t :=
  ⟨rfl, by decide, ⟨_, rfl⟩, ⟨_, rfl⟩⟩

theorem witness_StepRunsDecodedInstruction :
    let r := lastStep .rx 6 ⟨0x7E, 0x41, 0, 0, 0, 0xFF, 0xBF, 0xEF⟩
    let e : State := { inPhase .drainTest 6 with argOpc := 0x0D, argFb := 1 }
    (writing 0 1 State.reset).nextTurn = .hostWrite 0x00 1 ∧ decode [0x01] = .ok .enc ∧
    r.nextTurn = .seq ∧ r.agenda = [.seq] ∧ r.phase = .rx ∧ r.rxq = [0xEF] ∧ r.rxlen = 7 ∧
    decode (r.rxbuf.set 7 0xEF).toList = .ok (.ack ⟨0, 0, 0, 0xFF, 0xBF⟩) ∧
    e.nextTurn = .seq ∧ e.phase = .drainTest ∧ e.op = 6 ∧ e.rxq = [] ∧
    decode (mkFrame e.argOpc e.argFb e.argP1 e.argP2).toList = .ok (.play playPayload) := by
  decide

theorem witness_PlacedWordRunsNext :
    decodeTableWord 8 0x07 = some .flush ∧ decodeTableWord 64 0x7E0D010000FFF2EF = some (.play playPayload) := by
  decide

theorem witness_CommandRegisterIssues : (inPhase .rx 6).phase ≠ .idle ∧ State.reset.phase = .idle := by decide

/-- Boundary values of every range of the statement. -/
theorem witness_IgnoredWrites :
    (inPhase .rx 6).busy = true ∧ (∀ n ∈ [0x01, 0x06, 0x08, 0x3F], n < 0x40 ∧ n ≠ 0x00 ∧ n ≠ 0x07) ∧
      ∀ n ∈ [0x06, 0x08, 0x0A, 0x0C, 0x17, 0x20, 0x3F],
        n = 0x06 ∨ (0x08 ≤ n ∧ n ≤ 0x0A) ∨ (0x0C ≤ n ∧ n ≤ 0x17) ∨ (0x20 ≤ n ∧ n ≤ 0x3F) := by
  decide

/-- What stands at the boundaries of the ranges of the register map (`10_state.md` rule R20). -/
theorem witness_RegisterMapReads :
    [0x0C, 0x0D, 0x0F, 0x10, 0x17, 0x18, 0x1F, 0x20, 0x25, 0x26, 0x3F].map regAt =
      [.dstat, .reserved, .reserved, .txbuf 0, .txbuf 7, .rxbuf 0, .rxbuf 7, .decOpc, .decCkl, .reserved, .reserved] := by
  decide

theorem witness_IdleWriteReadsBack :
    State.reset.busy = false ∧
    (∀ n ∈ [0x01, 0x05, 0x0B, 0x18, 0x1F],
      n ∈ [0x01, 0x02, 0x03, 0x04, 0x05, 0x0B, 0x18, 0x19, 0x1A, 0x1B, 0x1C, 0x1D, 0x1E, 0x1F]) := by
  decide

theorem witness_ErrorFlagsWriteOneToClear :
    let s : State := { State.reset with
      rxq := List.replicate Config.rxqDepth 0, err := 0b001, agenda := [.arriveAndErrWrite 0x55 0x01] }
    s.nextTurn = .arriveAndErrWrite 0x55 0x01 ∧ s.level = .byteLevel ∧ Config.rxqDepth ≤ s.rxq.length :=
  ⟨rfl, rfl, by simp⟩

theorem witness_ErrorFlagsAreSticky :
    let s : State := { State.reset with err := 0b001 }
    (∃ t, step s = .next t) ∧ s.err.getLsbD 0 = true ∧ s.nextTurn = .timeout := ⟨⟨_, rfl⟩, by decide, rfl⟩

/-- `rst` from the agenda, and from turns repeated for ever. -/
theorem witness_RstFromAnyState :
    ({ inPhase .tx 6 with agenda := [.rst] } : State).nextTurn = .rst ∧
      ({ inPhase .drainTest 6 with later := .again .rst [] } : State).nextTurn = .rst := ⟨rfl, rfl⟩

theorem witness_OnlyOutsideRegistersRefused :
    step { State.reset with agenda := [.hostWrite 0x40 1] } = .refused (.registerOutsideMap 0x40) := rfl

theorem witness_ArriveQueuesOrDrops :
    let s : State := { State.reset with agenda := [.arrive 0x55] }
    let f : State := { s with rxq := List.replicate Config.rxqDepth 0 }
    s.level = .byteLevel ∧ s.nextTurn = .arrive 0x55 ∧ s.rxq.length < Config.rxqDepth ∧
      f.level = .byteLevel ∧ f.nextTurn = .arrive 0x55 ∧ Config.rxqDepth ≤ f.rxq.length :=
  ⟨rfl, rfl, Nat.lt_of_lt_of_le (by decide) eight_le_rxqDepth, rfl, rfl, by simp⟩

theorem witness_TimeoutOnlyWhileWaiting :
    let s : State := { inPhase .rx 6 with agenda := [.timeout] }
    let t : State := { s with rxq := [0x7E] }
    s.level = .byteLevel ∧ s.nextTurn = .timeout ∧ ((s.phase = .rx ∨ s.phase = .drainRx) ∧ s.rxq = []) ∧
      t.level = .byteLevel ∧ t.nextTurn = .timeout ∧ ¬((t.phase = .rx ∨ t.phase = .drainRx) ∧ t.rxq = []) := by
  decide

/-- A step that takes a byte from the queue. -/
theorem witness_ReceiveQueueIsFifo :
    let s : State := { inPhase .rx 6 with rxq := [0x7E, 0x41] }
    (next? (step s)).map State.rxq = some [0x41] := by
  decide

/-- A step that sends a byte. -/
theorem witness_WireOnlyGrowsInTxPhase :
    (next? (step { inPhase .tx 3 with txbuf := mkFrame 0x0D 1 0 0 })).map State.txwire = some [0x7E] := by
  decide

/-- A step that ends a drain turn; and, with the strobe of a record standing, a clock and a step that is no clock. -/
theorem witness_EventsComeFromDrainTurns :
    let c : State := { State.reset with level := .lineLevel, line := { Line.idle with evt := some ⟨.usbDone, 0x3C, 1, 31⟩ } }
    (next? (step (lastStep .drainRx 5 ⟨0x7E, 0x3C, 0, 0, 1, 0xFF, 0xC3, 0xEF⟩))).map (fun t => (t.phase, t.evlog.length)) =
      some (.drainTest, 1) ∧
    (c.level = .lineLevel ∧ c.nextTurn = .clk true ∧ (lineTick 2 true c).line.evt = none) ∧
    (writing 7 0 c).nextTurn = .hostWrite 7 0 ∧ (next? (step (writing 7 0 c))).map (fun t => t.line.evt) =
      some (some ⟨.usbDone, 0x3C, 1, 31⟩) := by
  decide

/-- A step that ends XCHG's reply read. -/
theorem witness_ResultWrittenOnlyByExchange :
    (next? (step (lastStep .rx 6 ⟨0x7E, 0x41, 0, 0, 0, 0xFF, 0xBF, 0xEF⟩))).map (fun t => (t.phase, t.rkind)) =
      some (.idle, .ack) := by
  decide

/-- A DEC. -/
theorem witness_DecodedFieldsWrittenOnlyByDecode :
    (next? (step (writing 0 2 { State.reset with rxbuf := mkFrame 0x0D 1 0 0 }))).map State.decOpc = some 0x0D := by
  decide

/-- XCHG's encode point. -/
theorem witness_TransmitBufferWrittenOnlyByEncode :
    (next? (step { inPhase .drainTest 6 with argOpc := 0x0D })).map (fun t => (t.txbuf.b1, t.phase)) = some (0x0D, .tx) := by
  decide

/-- A step while BUSY that is no reset. -/
theorem witness_OperandsStableWhileBusy :
    let s := writing 1 0x43 (inPhase .rx 6)
    (∃ t, step s = .next t) ∧ s.busy = true ∧ s.nextTurn = .hostWrite 1 0x43 := ⟨⟨_, rfl⟩, rfl, rfl⟩

theorem witness_SequencerTransitions :
    let d : State := { inPhase .drainTest 6 with rxq := [1] }
    let t7 : State := { inPhase .tx 6 with idx := 7 }
    let r6 : State := { inPhase .rx 6 with rxlen := 6, rxq := [1] }
    let r7 : State := { inPhase .rx 6 with rxlen := 7, rxq := [1] }
    State.reset.level = .byteLevel ∧ d.phase = .drainTest ∧ d.rxq ≠ [] ∧ (inPhase .drainTest 5).rxq = [] ∧
      (inPhase .tx 3).idx.toNat < 7 ∧ t7.idx = 7 ∧ t7.phase = .tx ∧ (inPhase .rx 6).rxq = [] ∧
      r6.rxlen.toNat < 7 ∧ r6.phase = .rx ∧ r7.rxlen = 7 ∧ r7.rxq = [1] ∧ (inPhase .flushWait 7).phase = .flushWait := by
  decide

/-- The invariant holds of a block in phase `p` of operation `o`, all else as after reset, if the pair fits, the phase
is not the drain turn and, in XCHG, is neither TX nor RX. -/
theorem inPhase_inv (p : Phase) (o : BitVec 4) (hf : (inPhase p o).phaseFitsOp = true) (hd : p ≠ .drainRx)
    (hx : o = opXchg → p ≠ .tx ∧ p ≠ .rx) : (inPhase p o).Inv where
  phaseFitsOp := hf
  idxInRange := by cases p <;> rfl
  readBufferClean := fun _ => ⟨by simp [inPhase, State.reset], fun i h => absurd h (Nat.not_lt_zero i),
    fun i _ _ => get_zero i⟩
  turnHasByte := fun h => absurd h hd
  sentSoFar := fun _ => ⟨[], rfl⟩
  requestIsOperands := fun h => ⟨fun a => absurd a (hx h).1, fun a => absurd a (hx h).2⟩
  queueFits := Nat.zero_le _
  validIsAnd := by simp [State.validIsAnd, State.valid, inPhase, State.reset]
  resultFitsKind := ⟨fun _ => rfl, fun h => nomatch h⟩
  lineIdleAtByteLevel := fun _ => rfl
  lineCountersInRange := by simp [State.lineCountersInRange, inPhase, State.reset, Line.idle]

theorem witness_EveryStepKeepsInvariant : (inPhase .tx 3).Inv ∧ ∃ t, step (inPhase .tx 3) = .next t :=
  ⟨inPhase_inv _ _ rfl (by decide) (by decide), _, rfl⟩

/-- The invariant holds of a drain turn about to store its first byte. -/
theorem drainTurn_inv : State.Inv { inPhase .drainRx 5 with rxq := [0x7E] } where
  phaseFitsOp := rfl
  idxInRange := rfl
  readBufferClean := fun _ => ⟨by simp [inPhase, State.reset], fun i h => absurd h (Nat.not_lt_zero i),
    fun i _ _ => get_zero i⟩
  turnHasByte := fun _ _ => List.cons_ne_nil _ _
  sentSoFar := fun h => nomatch h
  requestIsOperands := fun h => absurd h (by decide)
  queueFits := Nat.le_trans (by decide) eight_le_rxqDepth
  validIsAnd := by simp [State.validIsAnd, State.valid, inPhase, State.reset]
  resultFitsKind := ⟨fun _ => rfl, fun h => nomatch h⟩
  lineIdleAtByteLevel := fun _ => rfl
  lineCountersInRange := by simp [State.lineCountersInRange, inPhase, State.reset, Line.idle]

/-- An RXF read and a drain turn. -/
theorem witness_FrameReadEndsInNineSteps :
    let d : State := { inPhase .drainRx 5 with rxq := [0x7E] }
    ((inPhase .rx 4).Inv ∧ (inPhase .rx 4).level = .byteLevel ∧ (inPhase .rx 4).agenda = [] ∧
      (inPhase .rx 4).later = .quiet ∧ (inPhase .rx 4).phase = .rx) ∧
    d.Inv ∧ d.level = .byteLevel ∧ d.agenda = [] ∧ d.later = .quiet ∧ d.phase = .drainRx :=
  ⟨⟨inPhase_inv _ _ rfl (by decide) (by decide), rfl, rfl, rfl, rfl⟩, drainTurn_inv, rfl, rfl, rfl, rfl⟩

/-- A drain under way, with arrivals, a timer turn and a host read still to come. -/
theorem witness_EveryOperationEnds :
    let d : State := { inPhase .drainRx 5 with rxq := [0x7E] }
    let s : State := { d with agenda := [.arrive 0xEF, .seq, .timeout, .hostRead 0x3F] }
    s.Inv ∧ s.level = .byteLevel ∧ s.later = .quiet ∧
      ∀ t ∈ s.agenda, t = .seq ∨ t = .timeout ∨ (∃ b, t = .arrive b) ∨ ∃ n, n < 0x40 ∧ t = .hostRead n :=
  ⟨{ drainTurn_inv with }, rfl, rfl, by simp⟩

theorem witness_TransmitterSendsCharacter :
    let l : Line := { Line.idle with txHold := some 0xA5 }
    1 ≤ 1 ∧ l.txBits = 0 ∧ l.txHold = some 0xA5 := by
  decide

theorem witness_ReceiverReadsCharacter : 2 ≤ 2 ∧ Line.idle.rxFsm = .hunting ∧ Line.idle.rxPrev = true := by decide

theorem witness_StopBitDecides :
    let s : State := { State.reset with line := { Line.idle with rxFsm := .stop, rxBits := 8, rxCount := 1 } }
    let f : State := { s with rxq := List.replicate Config.rxqDepth 0 }
    s.line.rxFsm = .stop ∧ 2 ≤ s.line.rxCount + 1 ∧ s.rxq.length < Config.rxqDepth ∧ f.line.rxFsm = .stop ∧
      Config.rxqDepth ≤ f.rxq.length :=
  ⟨rfl, by decide, Nat.lt_of_lt_of_le (by decide) eight_le_rxqDepth, rfl, by simp⟩

theorem witness_WireTxWaitsForHoldingRegister :
    let s : State := { inPhase .tx 3 with level := .lineLevel }
    let f : State := { s with line := { Line.idle with txHold := some 0x7E } }
    let t : State := { s with idx := 7 }
    let x : State := { t with op := 6 }
    s.level = .lineLevel ∧ s.phase = .tx ∧ s.line.txHold = none ∧ s.idx.toNat < 7 ∧
      f.level = .lineLevel ∧ f.phase = .tx ∧ f.line.txHold ≠ none ∧
      t.level = .lineLevel ∧ t.phase = .tx ∧ t.line.txHold = none ∧ t.idx = 7 ∧ t.op = 3 ∧
      x.level = .lineLevel ∧ x.phase = .tx ∧ x.line.txHold = none ∧ x.idx = 7 ∧ x.op = 6 := by
  decide

theorem witness_TimeoutCounterCountsWaiting :
    let w : State := { inPhase .rx 6 with level := .lineLevel }
    (lineTick 2 true State.reset).waiting = false ∧ (lineTick 2 true w).waiting = true ∧ w.line.toCount + 1 < 2 ∧
      1 ≤ w.line.toCount + 1 := by
  decide

theorem witness_FacadeIssuesOneExchange :
    let s : State := { State.reset with agenda := FacadeOp.play.turns ++ [] }
    FacadeOp.play.request? = some (0x0D, 0, 0) ∧ s.phase = .idle ∧ s.agenda = FacadeOp.play.turns ++ [] :=
  ⟨rfl, rfl, rfl⟩

end Sys2Proof.Tests
end

section
/-!
A word placed by `withFetchWord` is the next instruction run (log entries 12 and 29).
-/

namespace Sys2Proof.Machine

/-! The table's decoding, at each of its two widths. -/

theorem decodeTableWord_command (w : Nat) : decodeTableWord 8 w = fetchCommand (BitVec.ofNat 8 w) := rfl

theorem decodeTableWord_frame (w : Nat) : decodeTableWord 64 w = (decodeFrame (frameOfWord w)).toOption := rfl

/-- A decoded frame encodes to the bytes it was decoded from. -/
theorem encode_of_decodeFrame {f : Buf8} {i : Instr} (h : decodeFrame f = .ok i) : encode i = f.toList := by
  obtain ⟨h0, h7, r, hr, h1, rfl⟩ := decodeFrame_ok h
  have hop := (frameRows_fit r hr ⟨f.b2, f.b3, f.b4, f.b5, f.b6⟩ State.reset).1
  simp only [encode, hop, frameBytes, Buf8.toList, h0, h7, h1]

/-! The turn that fetches the word. -/

/-- A placed command byte is written to CMD by the host's next turn. -/
theorem step_withFetchWord_command (s : State) (w : Nat) :
    step (s.withFetchWord 8 w) = writeCommand (BitVec.ofNat 8 w) s := by
  rw [step_turn _ (.hostWrite 0 (BitVec.ofNat 8 w)) s.agenda rfl]
  rfl

/-- The state once a frame read has stored the whole of `f`, `q` being left in the queue. -/
def frameStored (f : Buf8) (q : List Byte) (s : State) : State := { s with rxq := q, rxbuf := f, rxlen := 8 }

/-- The RxStep that stores the last byte of a frame of the table runs that frame's instruction. -/
theorem seqStep_stores_last {f : Buf8} {i : Instr} (hd : decodeFrame f = .ok i) (s : State) (q : List Byte)
    (hp : s.phase = .rx ∨ s.phase = .drainRx) (hlen : s.rxlen = 7) (hbuf : s.rxbuf.set 7 f.b7 = f)
    (hq : s.rxq = f.b7 :: q) : seqStep s = exec i (frameStored f q s) := by
  have hstore : storeByte f.b7 q s = frameStored f q s := by
    simp [storeByte, frameStored, hlen, hbuf]
  have hends : (frameStored f q s).readEnds f.b7 = true := by
    simp [State.readEnds, frameStored]
  have hfetch : fetchReceived (frameStored f q s) = some i := by
    simp [fetchReceived, frameStored, hd, Except.toOption]
  rw [seqStep_reading s hp, rxStep_ends s f.b7 q hq (hstore ▸ hends), hstore, frameReadEnds_fetched _ i hfetch]

/-- A frame read that waits for the last byte of `f`, the queue behind that byte being `s`'s (log entry 12). -/
def lastByteDue (f : Buf8) (s : State) : State :=
  { s with
    phase := if isNotif f.b1 then .drainRx else .rx
    op := if isNotif f.b1 then opDrn else opXchg
    rxbuf := { f with b7 := 0 }
    rxlen := 7
    rxq := f.b7 :: s.rxq }

theorem lastByteDue_reading (f : Buf8) (s : State) :
    (lastByteDue f s).phase = .rx ∨ (lastByteDue f s).phase = .drainRx := by
  cases hn : isNotif f.b1 <;> simp [lastByteDue, hn]

/-- A placed frame leaves the sequencer the step that reads its last byte. -/
theorem step_withFetchWord_frame (s : State) (w : Nat) :
    step (s.withFetchWord 64 w) = seqStep (lastByteDue (frameOfWord w) s) := by
  rw [step_turn _ .seq s.agenda rfl]
  rfl

/-- Settles O30: a command byte by the host's write to CMD, a frame by the RxStep that stores its last byte. -/
theorem placedWordRunsNext : Obligations.PlacedWordRunsNext := by
  intro s w i
  refine ⟨fun hi => ?command, fun hi => ?frame⟩
  case command =>
    rw [step_withFetchWord_command, writeCommand_known _ s i (decodeTableWord_command w ▸ hi)]
  case frame =>
    have hd : decodeFrame (frameOfWord w) = .ok i := toOption_ok (decodeTableWord_frame w ▸ hi)
    have hp := lastByteDue_reading (frameOfWord w) s
    refine ⟨frameStored (frameOfWord w) s.rxq (lastByteDue (frameOfWord w) s), ?_, rfl, rfl, rfl, rfl,
      (encode_of_decodeFrame hd).symm, hp⟩
    rw [step_withFetchWord_frame, seqStep_stores_last hd _ s.rxq hp rfl rfl rfl]

end Sys2Proof.Machine
end

section
/-!
The register file (`10_state.md` rules R20 to R26, R30, R31): what a write takes, what a read shows, and the errors.
-/

namespace Sys2Proof.Machine

/-! Buffers. -/

/-- A write beyond the buffer is dropped. -/
theorem set_beyond (f : Buf8) (i : Nat) (b : Byte) (h : 8 ≤ i) : f.set i b = f := by
  unfold Buf8.set
  iterate 8 rw [if_neg (by omega)]

theorem toList_getD (f : Buf8) (i : Nat) (h : i < 8) : f.toList.getD i 0 = f.get i := by
  interval_cases i <;> rfl

/-! What an idle write does to the register file (`10_state.md` rule R30). -/

/-- The registers a host write can change while the block is idle, CMD and ERR apart. -/
def Reg.writable : Reg → Bool
  | .argOpc | .argFb | .argP1 | .argP2 | .ctrl | .rxlen => true
  | .rxbuf i => decide (i < 8)
  | _ => false

/-- The part of a written value a register keeps: CTRL bit 0, RXLEN bits 3:0, else all of it. -/
def Reg.kept (r : Reg) (v : Byte) : Byte :=
  match r with
  | .ctrl => v &&& 0x01
  | .rxlen => v &&& 0x0F
  | _ => v

/-- CTRL keeps bit 0 as a flag. -/
theorem bit0_as_byte (v : Byte) : (if v.getLsbD 0 then 0x01 else 0x00 : Byte) = v &&& 0x01 := by
  revert v
  decide

/-- RXLEN keeps four bits. -/
theorem low_four_bits (v : Byte) : (v.setWidth 4).setWidth 8 = v &&& 0x0F := by
  revert v
  decide

/-- A writable register reads back what it keeps. -/
theorem readReg_writeIdle_same (s : State) (r : Reg) (v : Byte) (h : r.writable = true) :
    (s.writeIdle r v).readReg r = r.kept v := by
  cases r with
  | argOpc | argFb | argP1 | argP2 => rfl
  | ctrl => exact bit0_as_byte v
  | rxlen => exact low_four_bits v
  | rxbuf i => exact get_set_same s.rxbuf i v (of_decide_eq_true h)
  | _ => cases h

/-- A write shows in no other register. -/
theorem readReg_writeIdle_other (s : State) (r r' : Reg) (v : Byte) (h : r' ≠ r) :
    (s.writeIdle r v).readReg r' = s.readReg r' := by
  cases r with
  | argOpc | argFb | argP1 | argP2 | ctrl | rxlen => cases r' <;> (try exact absurd rfl h) <;> rfl
  | rxbuf i =>
    cases r' with
    | rxbuf j => exact get_set_other s.rxbuf i j v (fun hij => h (hij ▸ rfl))
    | _ => rfl
  | _ => rfl

/-- A write to a register that is not writable changes nothing. -/
theorem writeIdle_not_writable (s : State) (r : Reg) (v : Byte) (h : r.writable = false) : s.writeIdle r v = s := by
  cases r with
  | argOpc | argFb | argP1 | argP2 | ctrl | rxlen => cases h
  | rxbuf i =>
    have hi : 8 ≤ i := Nat.le_of_not_lt (of_decide_eq_false h)
    simp only [State.writeIdle, set_beyond _ _ _ hi]
  | _ => rfl

/-- An idle write touches only the operand registers, STRICT, RXLEN and RXBUF. -/
theorem writeIdle_frame (s : State) (r : Reg) (v : Byte) :
    s.writeIdle r v = { s with
      argOpc := (s.writeIdle r v).argOpc, argFb := (s.writeIdle r v).argFb, argP1 := (s.writeIdle r v).argP1,
      argP2 := (s.writeIdle r v).argP2, strict := (s.writeIdle r v).strict, rxlen := (s.writeIdle r v).rxlen,
      rxbuf := (s.writeIdle r v).rxbuf } := by
  cases r <;> rfl

/-! What the register numbers name (`10_state.md` rule R20). -/

/-- The numbers of the writable registers, CMD and ERR apart. -/
def writableNumbers : List Nat :=
  [0x01, 0x02, 0x03, 0x04, 0x05, 0x0B, 0x18, 0x19, 0x1A, 0x1B, 0x1C, 0x1D, 0x1E, 0x1F]

theorem writableNumbers_writable :
    ∀ n ∈ writableNumbers, n < regCount ∧ (regAt n).writable = true ∧ regAt n ≠ .cmd ∧ regAt n ≠ .err := by
  decide

/-- No two numbers name the same writable register. -/
theorem regAt_writable_inj : ∀ n ∈ writableNumbers, ∀ m, m < 0x40 → m ≠ n → regAt m ≠ regAt n := by
  decide

/-- Of the writable registers only CTRL, number 0x05, and RXLEN, number 0x0B, keep less than the written byte. -/
theorem kept_at (v : Byte) : ∀ n ∈ writableNumbers,
    (regAt n).kept v = if n = 0x05 then v &&& 0x01 else if n = 0x0B then v &&& 0x0F else v := by
  simp only [writableNumbers, List.forall_mem_cons]
  exact ⟨rfl, rfl, rfl, rfl, rfl, rfl, rfl, rfl, rfl, rfl, rfl, rfl, rfl, rfl, by simp⟩

/-- The read-only and reserved numbers. -/
theorem regAt_read_only : ∀ n, n < 0x40 →
    (n = 0x06 ∨ (0x08 ≤ n ∧ n ≤ 0x0A) ∨ (0x0C ≤ n ∧ n ≤ 0x17) ∨ (0x20 ≤ n ∧ n ≤ 0x3F)) →
    (regAt n).writable = false ∧ regAt n ≠ .cmd ∧ regAt n ≠ .err := by
  decide

theorem regAt_reserved : ∀ n, n < 0x40 → (0x0D ≤ n ∧ n ≤ 0x0F) ∨ (0x26 ≤ n ∧ n ≤ 0x3F) → regAt n = .reserved := by
  decide

theorem regAt_buffers : ∀ i, i < 8 → regAt (0x10 + i) = .txbuf i ∧ regAt (0x18 + i) = .rxbuf i := by
  decide

/-- Settles O33: the written register reads back what it keeps, and its number is the only one that names it. -/
theorem idleWriteReadsBack : Obligations.IdleWriteReadsBack := by
  intro s n v hidle hn
  obtain ⟨hlt, hw, hcmd, herr⟩ := writableNumbers_writable n hn
  refine ⟨s.writeIdle (regAt n) v, ?_, ?_, ?_, ?_⟩
  · rw [hostWrite_other n v s hlt hcmd herr, hidle]
    rfl
  · rw [readReg_writeIdle_same s _ v hw, kept_at v n hn]
  · exact fun m hm hne => readReg_writeIdle_other s _ _ v (regAt_writable_inj n hn m hm hne)
  · rw [writeIdle_frame]
    exact ⟨rfl, rfl, rfl, rfl, rfl⟩

/-- Settles O32: while BUSY only CMD and ERR take a write, and a read-only or reserved register never does. -/
theorem ignoredWrites : Obligations.IgnoredWrites := by
  intro s n v
  refine ⟨fun hbusy hn h0 h7 => ?busy, fun hn => ?readOnly⟩
  case busy =>
    have hcmd : regAt n ≠ .cmd := fun h => h0 ((regAt_cmd_err n hn).1 h)
    have herr : regAt n ≠ .err := fun h => h7 ((regAt_cmd_err n hn).2 h)
    rw [hostWrite_other n v s hn hcmd herr, if_pos hbusy]
  case readOnly =>
    have hlt : n < 0x40 := by omega
    obtain ⟨hw, hcmd, herr⟩ := regAt_read_only n hlt hn
    rw [hostWrite_other n v s hlt hcmd herr, writeIdle_not_writable s _ v hw, ite_self]

/-! Reads (`10_state.md` rule R20; `20_memory.md` rule R47). -/

theorem status_eq (s : State) :
    s.status = (if s.phase = .idle then 0x00 else 0x01) ||| (if s.tmo then 0x02 else 0x00) := by
  by_cases h : s.phase = .idle <;> simp [State.status, State.busy, h]

/-- No register shows what was read before. -/
theorem readReg_hostData (s : State) (d : Byte) (r : Reg) : State.readReg { s with hostData := d } r = s.readReg r := by
  cases r <;> rfl

/-- Reading the same register again leaves the state as the first read left it. -/
theorem hostRead_again (n : Nat) (s : State) (h : n < regCount) :
    hostRead n { s with hostData := s.readReg (regAt n) } = .next { s with hostData := s.readReg (regAt n) } := by
  simp only [hostRead_in n _ h, readReg_hostData]

/-- Settles O34: the map register by register; a second read finds the state it has left unchanged. -/
theorem registerMapReads : Obligations.RegisterMapReads := by
  intro s
  refine ⟨?_, ?_, ?_, rfl, ?_⟩
  · rw [← status_eq]
    cases hk : s.rkind <;> simp [regAt, regMap, State.readReg, RKind.code, hk, State.rxcnt]
  · intro n hn
    rw [regAt_reserved n (by omega) hn]
    rfl
  · intro i hi
    rw [(regAt_buffers i hi).1, (regAt_buffers i hi).2, toList_getD _ i hi, toList_getD _ i hi]
    exact ⟨rfl, rfl⟩
  · intro n hn
    have hread := hostRead_in n s hn
    refine ⟨hread, fun t ht => ?_⟩
    obtain rfl : _ = t := Host.Outcome.next.inj (hread.symm.trans ht)
    exact hostRead_again n s hn

/-- After reset every register reads 0x00. -/
theorem readReg_reset (r : Reg) : State.reset.readReg r = 0x00 := by
  cases r with
  | txbuf i => exact get_zero i
  | rxbuf i => exact get_zero i
  | _ => rfl

/-- Settles O37: every register reads 0x00, whatever its number; the rest stands in the reset state. -/
theorem resetValues : Obligations.ResetValues :=
  ⟨rfl, rfl, rfl, fun n _ => readReg_reset (regAt n), rfl, rfl, rfl, rfl, rfl⟩

/-- Settles O51: idle, with nothing stored, nothing queued and nothing sent, every part of the invariant holds. -/
theorem resetMeetsInvariant : Obligations.ResetMeetsInvariant where
  phaseFitsOp := rfl
  idxInRange := rfl
  readBufferClean := fun h => by rcases h with h | h <;> cases h
  turnHasByte := nofun
  sentSoFar := nofun
  requestIsOperands := fun h => absurd h (by decide)
  queueFits := Nat.zero_le _
  validIsAnd := rfl
  resultFitsKind := ⟨fun _ => rfl, nofun⟩
  lineIdleAtByteLevel := fun _ => rfl
  lineCountersInRange := ⟨Nat.zero_le _, nofun, nofun⟩

/-! CMD (`10_state.md` rule R21). -/

/-- The command codes, as a chain of tests. -/
theorem fetchCommand_eq (v : Byte) : fetchCommand v =
    if v = 0x01 then some .enc else if v = 0x02 then some .dec else if v = 0x03 then some .txf
    else if v = 0x04 then some .rxf else if v = 0x05 then some .drn else if v = 0x06 then some .xchg
    else if v = 0x07 then some .flush else none := by
  revert v
  decide

/-- While BUSY a write to CMD only flags, whatever the code. -/
theorem writeCommand_busy (v : Byte) (s : State) (h : s.phase ≠ .idle) :
    writeCommand v s = .next (s.raise errCmderr) := by
  rw [writeCommand, fetchCommand_eq]
  split_ifs <;>
    simp only [exec, execEnc, execDec, execTxf, execRxf, execDrn, execXchg, execFlush, issue_busy _ s h]

/-- Settles O31: the codes test by test while idle, a flag whatever the code while BUSY. -/
theorem commandRegisterIssues : Obligations.CommandRegisterIssues := by
  intro s v
  refine ⟨fun hbusy => ?busy, fun _ => ?idle, rfl⟩
  case busy =>
    rw [hostWrite_cmd, writeCommand_busy v s hbusy, raise_eq]
    rfl
  case idle =>
    have hflag : s.raise errCmderr = { s with err := s.err ||| 0b100 } := raise_eq errCmderr s
    rw [hostWrite_cmd, writeCommand, fetchCommand_eq]
    split_ifs <;> simp only [hflag]

/-! ERR (`10_state.md` rule R24; `60_exceptions.md` rule R229). -/

/-- The bits of ERR after a host write of `v` in a step that sets the flags `f`. -/
theorem errAfter_write_bit (e f : BitVec 3) (v : Byte) (i : Nat) (h : i < 3) :
    (errAfter e f (v.setWidth 3)).getLsbD i = ((e.getLsbD i && !v.getLsbD i) || f.getLsbD i) := by
  rw [errAfter_bit e f _ i h]
  simp [h]

/-- Settles O35: a flag set and cleared at once ends set, since `errAfter` clears before it sets. -/
theorem errorFlagsWriteOneToClear : Obligations.ErrorFlagsWriteOneToClear := by
  intro s v
  refine ⟨⟨s.writeErr v, hostWrite_err v s, rfl, fun i hi => ?write⟩, fun b hturn hlevel hfull => ?both⟩
  case write =>
    rw [writeErr_err, errAfter_write_bit s.err 0 v i hi]
    simp
  case both =>
    have hnot : ¬s.turnSpent.rxq.length < Config.rxqDepth := by simpa using hfull
    refine ⟨arriveInto Config.rxqDepth b (v.setWidth 3) s.turnSpent, ?_, ?_, ?_, fun i hpos hi => ?_⟩
    · rw [step_takes, hturn]
      exact linkTurn_byteLevel b _ s.turnSpent (by simpa using hlevel)
    · rw [arriveInto_rxq, if_neg hnot, turnSpent_rxq]
    · rw [arriveInto_err, if_neg hnot, errAfter_write_bit _ _ v 0 (by decide)]
      simp [errOverrun]
    · have hoverrun : errOverrun.getLsbD i = false := by
        interval_cases i <;> rfl
      rw [arriveInto_err, if_neg hnot, errAfter_write_bit _ _ v i hi, hoverrun, turnSpent_err, Bool.or_false]

end Sys2Proof.Machine
end

section
/-!
The registers a frame writes (`10_state.md` rules R16, R17, R18, R24, R28): which step writes each, and what it leaves.
-/

namespace Sys2Proof.Machine

/-! Steps that touch few fields: what each leaves alone. -/

/-- The end of a frame read leaves ERR and TXBUF alone. -/
theorem endFrameRead_frame (a : ReplyArm) (c : EvClass) (s : State) :
    (endFrameRead a c s).err = s.err ∧ (endFrameRead a c s).txbuf = s.txbuf := by
  unfold endFrameRead
  split
  · exact ⟨rfl, rfl⟩
  · split <;> exact ⟨rfl, rfl⟩
  · exact ⟨rfl, rfl⟩

@[simp] theorem readEnd_err (s : State) : (readEnd s).err = s.err := (endFrameRead_frame _ _ s).1

@[simp] theorem readEnd_txbuf (s : State) : (readEnd s).txbuf = s.txbuf := (endFrameRead_frame _ _ s).2

/-- Leaving the TX phase touches PHASE, OP and what a frame read begins with. -/
theorem leaveTx_frame (s : State) :
    leaveTx s = { s with
      phase := (leaveTx s).phase, op := (leaveTx s).op, rxbuf := (leaveTx s).rxbuf, rxlen := (leaveTx s).rxlen,
      tmo := (leaveTx s).tmo } := by
  unfold leaveTx
  split <;> rfl

/-- TxStep touches what `WireTx` and leaving the TX phase touch. -/
theorem txStep_frame (s : State) :
    txStep s = { s with
      phase := (txStep s).phase, op := (txStep s).op, idx := (txStep s).idx, rxbuf := (txStep s).rxbuf,
      rxlen := (txStep s).rxlen, tmo := (txStep s).tmo, txwire := (txStep s).txwire, line := (txStep s).line } := by
  rcases txStep_cases s with ⟨-, h⟩ | ⟨-, h⟩
  · rw [h, leaveTx_frame]
    rfl
  · rw [h]
    rfl

@[simp] theorem txStep_err (s : State) : (txStep s).err = s.err := by rw [txStep_frame]

@[simp] theorem txStep_txbuf (s : State) : (txStep s).txbuf = s.txbuf := by rw [txStep_frame]

/-- One clock of transmitter and receiver: the receiver's report reaches the block, its strobe ended. -/
theorem lineTick_eq (bc : Nat) (rx : Bool) (s : State) :
    lineTick bc rx s = takeReport (rxTick bc rx (txTick bc s.line)).2
      { s with line := { (rxTick bc rx (txTick bc s.line)).1 with evt := none } } := rfl

/-- One clock of transmitter and receiver touches the line, RXQ and ERR. -/
theorem lineTick_frame (bc : Nat) (rx : Bool) (s : State) :
    lineTick bc rx s = { s with
      line := (lineTick bc rx s).line, rxq := (lineTick bc rx s).rxq, err := (lineTick bc rx s).err } := by
  rw [lineTick_eq, takeReport_other]

@[simp] theorem lineTick_txbuf (bc : Nat) (rx : Bool) (s : State) : (lineTick bc rx s).txbuf = s.txbuf := by
  rw [lineTick_frame]


/-! ERR (`10_state.md` rule R24). -/

/-- Every flag of ERR that is set in `s` is set in `u`. -/
def FlagsKept (s u : State) : Prop := ∀ i, s.err.getLsbD i = true → u.err.getLsbD i = true

theorem flagsKept_of_eq {s u : State} (h : u.err = s.err) : FlagsKept s u := fun _ hi => h ▸ hi

/-- Setting flags and clearing none keeps every flag. -/
theorem flagsKept_of_set {s u : State} (f : BitVec 3) (h : u.err = errAfter s.err f 0) : FlagsKept s u := by
  intro i hi
  have hset : u.err = s.err ||| f := h.trans (errAfter_set s.err f)
  rw [hset, BitVec.getLsbD_or, hi, Bool.true_or]

/-- A clock sets OVERRUN or FERR or neither, and clears nothing. -/
theorem lineTick_flagsKept (bc : Nat) (rx : Bool) (s : State) : FlagsKept s (lineTick bc rx s) := by
  rw [lineTick_eq]
  rcases takeReport_cases (rxTick bc rx (txTick bc s.line)).2
    { s with line := { (rxTick bc rx (txTick bc s.line)).1 with evt := none } } with h | ⟨b, -, h⟩ | ⟨-, h⟩
  · exact flagsKept_of_eq (by rw [h])
  · exact flagsKept_of_set _ (by rw [h]; rfl)
  · exact flagsKept_of_set _ (by rw [h]; rfl)

/-- Only a write to ERR and a reset clear flags. -/
theorem moves_flagsKept {t : Turn} {s u : State} (h : Moves t s u) (hw : ∀ v, t ≠ .hostWrite 0x07 v)
    (hb : ∀ b v, t ≠ .arriveAndErrWrite b v) (hr : t ≠ .rst) : FlagsKept s u := by
  cases h with
  | cmderr v => exact flagsKept_of_set errCmderr rfl
  | arrive b => exact flagsKept_of_set _ rfl
  | clock rx => exact lineTick_flagsKept bitClocks rx s
  | clockTimeout rx =>
    intro i hi
    rw [readEnd_err]
    exact lineTick_flagsKept bitClocks rx s i hi
  | errWrite v => exact absurd rfl (hw v)
  | arriveClear b v => exact absurd rfl (hb b v)
  | rst => exact absurd rfl hr
  | idleWrite => exact flagsKept_of_eq (by rw [writeIdle_frame])
  | storeLast | timeout => exact flagsKept_of_eq (readEnd_err _)
  | send => exact flagsKept_of_eq (txStep_err s)
  | _ => exact flagsKept_of_eq rfl

/-- Settles O36: the turns it leaves out are the only ones that clear. -/
theorem errorFlagsAreSticky : Obligations.ErrorFlagsAreSticky := by
  intro s t i hstep hi hw hb hr
  exact moves_flagsKept (moves_step hstep) hw hb hr i (by rwa [turnSpent_err])

/-! TXBUF (`10_state.md` rule R18). -/

/-- A turn leaves TXBUF as it was, or it is ENC's issue or XCHG's encode point, or a reset. -/
theorem moves_txbuf {t : Turn} {s u : State} (h : Moves t s u) :
    u.txbuf = s.txbuf ∨
    (u.txbuf = mkFrame s.argOpc s.argFb s.argP1 s.argP2 ∧
      ((s.phase = .idle ∧ t = .hostWrite 0x00 0x01) ∨
        (s.phase = .drainTest ∧ s.op = opXchg ∧ s.rxq = [] ∧ u.phase = .tx))) ∨
    t = .rst := by
  cases h with
  | enc _ hidle => exact .inr (.inl ⟨rfl, .inl ⟨hidle, rfl⟩⟩)
  | encode _ hp ho hq => exact .inr (.inl ⟨rfl, .inr ⟨hp, ho, hq, rfl⟩⟩)
  | rst => exact .inr (.inr rfl)
  | idleWrite => exact .inl (by rw [writeIdle_frame])
  | storeLast | timeout => exact .inl (readEnd_txbuf _)
  | send => exact .inl (txStep_txbuf s)
  | clock rx => exact .inl (lineTick_txbuf bitClocks rx s)
  | clockTimeout rx => exact .inl ((readEnd_txbuf _).trans (lineTick_txbuf bitClocks rx s))
  | _ => exact .inl rfl

/-- Settles O47: its two writers are ENC's issue and XCHG's encode point. -/
theorem transmitBufferWrittenOnlyByEncode : Obligations.TransmitBufferWrittenOnlyByEncode := by
  intro s t hstep
  simpa [opXchg] using moves_txbuf (moves_step hstep)

/-! The end of a frame read (`43_exchange.md` rules R111, R116, R120). -/

/-- The registers a frame or a decode writes, and the event log. -/
structure Reports where
  decOpc : Byte
  decFb : Byte
  decP1 : Byte
  decP2 : Byte
  decCkh : Byte
  decCkl : Byte
  dstat : BitVec 5
  result : Byte
  rkind : RKind
  evlog : List Event

/-- Those registers of a state. -/
def State.reports (s : State) : Reports :=
  { decOpc := s.decOpc, decFb := s.decFb, decP1 := s.decP1, decP2 := s.decP2, decCkh := s.decCkh, decCkl := s.decCkl,
    dstat := s.dstat, result := s.result, rkind := s.rkind, evlog := s.evlog }

/-- `u` has what `s` has in the registers a frame or a decode writes. -/
theorem reports_eq_iff {s u : State} : u.reports = s.reports ↔
    (u.decOpc = s.decOpc ∧ u.decFb = s.decFb ∧ u.decP1 = s.decP1 ∧ u.decP2 = s.decP2 ∧ u.decCkh = s.decCkh ∧
      u.decCkl = s.decCkl ∧ u.dstat = s.dstat) ∧ (u.result = s.result ∧ u.rkind = s.rkind) ∧ u.evlog = s.evlog := by
  simp [State.reports, and_assoc]

/-- What stands on the event port after the turn `t` if its step makes no record: a clock ends the strobe (log entry
20). -/
def strobeAfter (t : Turn) (l : Line) : Option Event :=
  match t with
  | .clk _ => none
  | _ => l.evt

/-- The turn `t` from `s` to `u` ends no drain turn and no reply read, decodes nothing, and is no reset. -/
structure Quiet (t : Turn) (s u : State) : Prop where
  reports : u.reports = s.reports
  strobe : s.level = .lineLevel → u.line.evt = strobeAfter t s.line
  noDrainEnd : s.phase = .drainRx → u.phase ≠ .drainTest

/-- The step from `s` to `u` ends a drain turn: one record, of the decoded fields, is appended. -/
structure DrainTurnEnds (s u : State) : Prop where
  before : s.phase = .drainRx
  after : u.phase = .drainTest
  result : u.result = s.result
  rkind : u.rkind = s.rkind
  emits : ∃ e, u.evlog = s.evlog ++ [e] ∧ e.opc = u.decOpc ∧ e.p2 = u.decP2 ∧ e.dstat = u.dstat ∧
    (s.level = .lineLevel → u.line.evt = some e)

/-- The step from `s` to `u` ends XCHG's reply read. -/
structure ReplyReadEnds (t : Turn) (s u : State) : Prop where
  before : s.phase = .rx
  xchg : s.op = opXchg
  after : u.phase = .idle
  evlog : u.evlog = s.evlog
  strobe : s.level = .lineLevel → u.line.evt = strobeAfter t s.line

/-- What a turn does with the registers a frame writes. -/
inductive Effect (t : Turn) (s u : State) : Prop where
  | quiet (h : Quiet t s u)
  | dec (hp : s.phase = .idle) (ht : t = .hostWrite 0x00 0x02) (hu : u = decodeStep s)
  | drainTurn (h : DrainTurnEnds s u)
  | reply (h : ReplyReadEnds t s u)
  | reset (ht : t = .rst) (hu : u = resetBlock s)

/-- `v` is `s` after the stored byte, the timeout mark or the clock that ends a frame read, before the end's own effect. -/
structure ReadAbout (t : Turn) (s v : State) : Prop where
  phase : v.phase = s.phase
  op : v.op = s.op
  level : v.level = s.level
  reports : v.reports = s.reports
  strobe : s.level = .lineLevel → v.line.evt = strobeAfter t s.line

/-- The end of a frame read: a drain turn's appends a record, XCHG's interprets the reply, RXF's reports nothing. -/
theorem effect_readEnd {t : Turn} {s v : State} (h : ReadAbout t s v) (hp : s.phase = .rx ∨ s.phase = .drainRx) :
    Effect t s (readEnd v) := by
  obtain ⟨-, ⟨hresult, hrkind⟩, hevlog⟩ := reports_eq_iff.mp h.reports
  rcases hp with hp | hp
  · by_cases ho : s.op = opXchg
    · have hend : readEnd v = toIdle (interpretAs _ (decodeStep v)) :=
        endFrameRead_reply _ _ v (h.phase.trans hp) (h.op.trans ho)
      rw [hend]
      exact .reply ⟨hp, ho, rfl, hevlog, h.strobe⟩
    · have hend : readEnd v = toIdle v := endFrameRead_rxf _ _ v (h.phase.trans hp) (h.op ▸ ho)
      rw [hend]
      exact .quiet ⟨h.reports, h.strobe, fun _ => nofun⟩
  · have hend : readEnd v = { classifyAs _ (decodeStep v) with phase := .drainTest } :=
      endFrameRead_drainRx _ _ v (h.phase.trans hp)
    rw [hend]
    refine .drainTurn ⟨hp, rfl, hresult, hrkind, _, by rw [← hevlog]; rfl, rfl, rfl, rfl, fun hl => ?_⟩
    have hv : v.level = .lineLevel := h.level.trans hl
    simp [classifyAs, strobe, hv]

/-- A turn that keeps the reported registers, PHASE and the event port's pins is quiet. -/
theorem quiet_of_kept {t : Turn} {s u : State} (ht : ∀ rx, t ≠ .clk rx) (hr : u.reports = s.reports)
    (hl : u.line.evt = s.line.evt) (hp : s.phase = .drainRx → u.phase ≠ .drainTest) : Quiet t s u := by
  refine ⟨hr, fun _ => ?_, hp⟩
  cases t with
  | clk rx => exact absurd rfl (ht rx)
  | _ => exact hl

/-! The turns that are no clock. -/

/-- Loading the holding register leaves the event port alone. -/
theorem loadHold_evt (lv : Level) (b : Byte) (l : Line) : (loadHold lv b l).evt = l.evt := by
  cases lv <;> rfl

theorem txStep_evt (s : State) : (txStep s).line.evt = s.line.evt := by
  rcases txStep_cases s with ⟨-, h⟩ | ⟨-, h⟩
  · rw [h, leaveTx_frame]
    exact loadHold_evt _ _ _
  · rw [h]
    exact loadHold_evt _ _ _

/-- What a turn that is no clock does with the registers a frame writes. -/
theorem effect_of_moves {t : Turn} {s u : State} (ht : ∀ rx, t ≠ .clk rx) (h : Moves t s u) : Effect t s u := by
  cases h with
  | dec _ hi => exact .dec hi rfl rfl
  | rst => exact .reset rfl rfl
  | clock rx => exact absurd rfl (ht rx)
  | clockTimeout rx => exact absurd rfl (ht rx)
  | storeLast _ _ _ hp => exact effect_readEnd ⟨rfl, rfl, rfl, rfl, fun _ => rfl⟩ hp
  | timeout _ _ hw => exact effect_readEnd ⟨rfl, rfl, rfl, rfl, fun _ => rfl⟩ (waiting_phase hw).1
  | send _ htx =>
    refine .quiet (quiet_of_kept ht ?_ (txStep_evt s) fun hp => by simp [hp] at htx)
    rw [txStep_frame]
    rfl
  | idleWrite _ _ _ hi =>
    rw [writeIdle_frame]
    exact .quiet (quiet_of_kept ht rfl rfl fun hp => by simp [hp] at hi)
  | enc _ h | txf _ h | rxf _ h | drn _ h | xchg _ h | flush _ h | drainDone _ h | encode _ h | drainTurn _ h
  | flushed _ h => exact .quiet (quiet_of_kept ht rfl rfl fun hp => by simp [hp] at h)
  | pass | read | cmderr | errWrite | store | arrive | arriveClear =>
    exact .quiet (quiet_of_kept ht rfl rfl fun hp => by simp [hp])

/-! The clock. -/

/-- A clock ends the strobe. -/
theorem lineTick_evt (bc : Nat) (rx : Bool) (s : State) : (lineTick bc rx s).line.evt = none := by
  rw [lineTick_eq, takeReport_other]

/-- What a clock does at line level: it counts, or the count ends a wait with `Timeout`. -/
theorem clockTurn_cases {rx : Bool} {s u : State} (hl : s.level = .lineLevel) (h : clockTurn rx s = .next u) :
    u = countWait (lineTick bitClocks rx s) ∨
    ((s.phase = .rx ∨ s.phase = .drainRx) ∧
      u = readEnd { clearWait (countWait (lineTick bitClocks rx s)) with tmo := true }) := by
  rw [clockTurn_lineLevel rx s hl, clockStep] at h
  split at h
  · rename_i hexpired
    have hw : (countWait (lineTick bitClocks rx s)).waiting = true := by
      simp only [State.waitExpired, Bool.and_eq_true] at hexpired
      exact hexpired.1
    have hp := (waiting_phase hw).1
    rw [timeoutStep, frameReadEnds_eq { clearWait (countWait (lineTick bitClocks rx s)) with tmo := true } hp] at h
    rw [countWait_phase, lineTick_frame] at hp
    exact .inr ⟨hp, (Host.Outcome.next.inj h).symm⟩
  · exact .inl (Host.Outcome.next.inj h).symm

/-- A clock without a timeout is quiet. -/
theorem quiet_lineTick (bc : Nat) (rx : Bool) (s : State) : Quiet (.clk rx) s (countWait (lineTick bc rx s)) := by
  refine ⟨?_, fun _ => lineTick_evt bc rx s, fun hp => ?_⟩
  · rw [lineTick_frame]
    rfl
  · rw [countWait_phase, lineTick_frame]
    simp [hp]

/-- What any turn does with the registers a frame writes. -/
theorem effect_takeTurn {t : Turn} {s u : State} (h : takeTurn t s = .next u) : Effect t s u := by
  by_cases ht : ∃ rx, t = .clk rx
  swap
  · exact effect_of_moves (not_exists.mp ht) (moves_takeTurn h)
  obtain ⟨rx, rfl⟩ := ht
  change clockTurn rx s = .next u at h
  cases hl : s.level with
  | byteLevel =>
    rw [clockTurn_byteLevel rx s hl] at h
    cases h
    exact .quiet ⟨rfl, fun a => absurd (hl.symm.trans a) nofun, fun hp => by simp [hp]⟩
  | lineLevel =>
    rcases clockTurn_cases hl h with rfl | ⟨hp, rfl⟩
    · exact .quiet (quiet_lineTick bitClocks rx s)
    · refine effect_readEnd ⟨?_, ?_, ?_, ?_, fun _ => lineTick_evt bitClocks rx s⟩ hp <;> rw [lineTick_frame] <;> rfl

/-- A step seen from the state before its turn is taken off the schedule. -/
theorem effect_step {s u : State} (h : step s = .next u) : Effect s.nextTurn s.turnSpent u := effect_takeTurn h

/-! The statements. -/

/-- Settles O45: of the effects a turn can have, only the end of XCHG's reply read and a reset write them. -/
theorem resultWrittenOnlyByExchange : Obligations.ResultWrittenOnlyByExchange := by
  intro s t hstep
  cases effect_step hstep with
  | quiet h =>
    obtain ⟨-, hkept, -⟩ := reports_eq_iff.mp h.reports
    exact .inl (by simpa using hkept)
  | dec _ _ hu => exact .inl (by simp [hu])
  | drainTurn h => exact .inl (by simpa using And.intro h.result h.rkind)
  | reply h =>
    exact .inr (.inl ⟨(turnSpent_phase s).symm.trans h.before, (turnSpent_op s).symm.trans h.xchg, h.after⟩)
  | reset hr _ => exact .inr (.inr hr)

/-- Settles O46: each effect a turn can have, but the quiet one, is a writer the rule names. -/
theorem decodedFieldsWrittenOnlyByDecode : Obligations.DecodedFieldsWrittenOnlyByDecode := by
  intro s t hstep
  cases effect_step hstep with
  | quiet h =>
    obtain ⟨hkept, -, -⟩ := reports_eq_iff.mp h.reports
    exact .inl (by simpa using hkept)
  | dec hp ht _ => exact .inr (.inl ⟨by simpa using hp, ht⟩)
  | drainTurn h => exact .inr (.inr (.inl ⟨by simpa using h.before, h.after⟩))
  | reply h =>
    exact .inr (.inr (.inr (.inl
      ⟨(turnSpent_phase s).symm.trans h.before, (turnSpent_op s).symm.trans h.xchg, h.after⟩)))
  | reset hr _ => exact .inr (.inr (.inr (.inr hr)))

/-- EVLOG grows exactly at the end of a drain turn (`10_state.md` rule R28). -/
theorem Effect.evlog {t : Turn} {s u : State} (h : Effect t s u) :
    (u.evlog = s.evlog ∧ ¬(s.phase = .drainRx ∧ u.phase = .drainTest)) ∨
    (s.phase = .drainRx ∧ u.phase = .drainTest ∧ ∃ e, u.evlog = s.evlog ++ [e] ∧ e.opc = u.decOpc ∧
      e.p2 = u.decP2 ∧ e.dstat = u.dstat) ∨
    (t = .rst ∧ u.evlog = []) := by
  cases h with
  | quiet h =>
    obtain ⟨-, -, hlog⟩ := reports_eq_iff.mp h.reports
    exact .inl ⟨hlog, fun ⟨hp, hu⟩ => h.noDrainEnd hp hu⟩
  | dec hp _ hu => exact .inl ⟨by simp [hu], by simp [hp]⟩
  | drainTurn h =>
    obtain ⟨e, hlog, hopc, hp2, hdstat, -⟩ := h.emits
    exact .inr (.inl ⟨h.before, h.after, e, hlog, hopc, hp2, hdstat⟩)
  | reply h => exact .inl ⟨h.evlog, by simp [h.before]⟩
  | reset hr hu => exact .inr (.inr ⟨hr, by rw [hu]; rfl⟩)

/-- At line level the strobe stands with the record of its step, ends at a clock and is else left alone (log entry 20). -/
theorem Effect.strobe {t : Turn} {s u : State} (h : Effect t s u) (hl : s.level = .lineLevel) (hr : t ≠ .rst) :
    (∃ e, u.evlog = s.evlog ++ [e] ∧ u.line.evt = some e) ∨
    (u.evlog = s.evlog ∧ u.line.evt = strobeAfter t s.line) := by
  cases h with
  | quiet h =>
    obtain ⟨-, -, hlog⟩ := reports_eq_iff.mp h.reports
    exact .inr ⟨hlog, h.strobe hl⟩
  | dec _ ht hu => exact .inr ⟨by simp [hu], by simp [hu, ht, strobeAfter]⟩
  | drainTurn h =>
    obtain ⟨e, hlog, -, -, -, hevt⟩ := h.emits
    exact .inl ⟨e, hlog, hevt hl⟩
  | reply h => exact .inr ⟨h.evlog, h.strobe hl⟩
  | reset ht _ => exact absurd ht hr

theorem strobeAfter_clk {t : Turn} {rx : Bool} (h : t = .clk rx) (l : Line) : strobeAfter t l = none := by
  rw [h]
  rfl

theorem strobeAfter_other {t : Turn} (h : ∀ rx, t ≠ .clk rx) (l : Line) : strobeAfter t l = l.evt := by
  cases t with
  | clk rx => exact absurd rfl (h rx)
  | _ => rfl

/-- Settles O44: the log and the strobe, each by the effect of the turn. -/
theorem eventsComeFromDrainTurns : Obligations.EventsComeFromDrainTurns := by
  intro s t hstep
  have heffect := effect_step hstep
  refine ⟨by simpa using heffect.evlog, fun hl hr => ?_⟩
  rcases heffect.strobe (by simpa using hl) hr with ⟨e, hlog, hevt⟩ | ⟨hlog, hevt⟩
  · exact .inl ⟨e, by simpa using hlog, hevt⟩
  · rw [turnSpent_line] at hevt
    exact .inr ⟨by simpa using hlog, fun rx ht => hevt.trans (strobeAfter_clk ht s.line),
      fun ht => hevt.trans (strobeAfter_other ht s.line)⟩

end Sys2Proof.Machine
end

section
/-!
The frame a step meets: strict mode refuses an invalid one (`10_state.md` rule R22), and a step runs the instruction of
a whole frame of the table (`10_state.md` rule R21; `43_exchange.md` rules R115, R120).
-/

namespace Sys2Proof.Machine

/-! Strict mode (`10_state.md` rules R22, R25). -/

/-- VALID is the four conditions of rule R25 together. -/
theorem frameValid_iff (f : Buf8) (n : BitVec 4) :
    frameValid f n = true ↔ f.b0 = 0x7E ∧ f.b7 = 0xEF ∧ n = 8 ∧ f.b5 ++ f.b6 = cksum f.b1 f.b2 f.b3 f.b4 := by
  simp [frameValid, startOk, endOk, lenOk, ckOk, startMarker, endMarker, and_assoc]

/-- After a decode the frame in RXBUF is usable in compat mode, and in strict mode if it is valid. -/
theorem decodeStep_usable (s : State) : (decodeStep s).usable = (!s.strict || frameValid s.rxbuf s.rxlen) := by
  obtain ⟨-, -, -, -, hvalid⟩ := dstatOf_bits s.rxbuf s.rxlen
  rw [State.usable, State.valid, decodeStep_strict, decodeStep_dstat, hvalid]

theorem armTaken_unusable {s : State} (h : s.usable = false) (a : ReplyArm) : s.armTaken a = .falsy := by
  simp [State.armTaken, h]

theorem classEmitted_unusable {s : State} (h : s.usable = false) (c : EvClass) : s.classEmitted c = .other := by
  simp [State.classEmitted, h]

/-- The state a frame read ends in. -/
theorem frameReadEnds_readEnd {s t : State} (hp : s.phase = .rx ∨ s.phase = .drainRx)
    (h : frameReadEnds s = .next t) : t = readEnd s :=
  (Host.Outcome.next.inj ((frameReadEnds_eq s hp).symm.trans h)).symm

/-- Settles O28: an invalid frame is not usable in strict mode, so the unrecognised arm and EV_OTHER are taken. -/
theorem strictModeRejectsInvalidFrames : Obligations.StrictModeRejectsInvalidFrames := by
  intro s t hstrict hinvalid hend
  have hvalid : frameValid s.rxbuf s.rxlen = false := Bool.eq_false_iff.mpr (mt (frameValid_iff _ _).mp hinvalid)
  have husable : (decodeStep s).usable = false := by rw [decodeStep_usable, hstrict, hvalid]; rfl
  refine ⟨fun hp ho => ?reply, fun hp => ?drained⟩
  case reply =>
    rw [frameReadEnds_readEnd (.inl hp) hend, readEnd, endFrameRead_reply _ _ s hp ho]
    simp [armTaken_unusable husable, ReplyArm.result, ReplyArm.kind]
  case drained =>
    rw [frameReadEnds_readEnd (.inr hp) hend, readEnd, endFrameRead_drainRx _ _ s hp]
    simp [classifyAs, State.eventOf, classEmitted_unusable husable]

/-! The instruction a step fetches (`10_state.md` rule R21; `43_exchange.md` rules R115, R120). -/

theorem decode_toList (f : Buf8) : decode f.toList = decodeFrame f := rfl

theorem decode_command (v : Byte) : decode [v] = decodeCommand v := rfl

/-- Settles O29: the host's write to CMD, the RxStep that stores the eighth byte, XCHG's encode point. -/
theorem stepRunsDecodedInstruction : Obligations.StepRunsDecodedInstruction := by
  refine ⟨fun s v i hturn hd => ?command, fun s b q i hturn hp hq hlen hd => ?received,
    fun s i hturn hp ho hq hd => ?request, turnSpent_eq, turnSpent_agenda⟩
  case command =>
    rw [decode_command] at hd
    have hfetch : fetchCommand v = some i := by simp [fetchCommand, hd, Except.toOption]
    rw [step_takes, hturn]
    exact writeCommand_known v _ i hfetch
  case received =>
    rw [decode_toList] at hd
    have hstored : seqStep s.turnSpent = exec i (frameStored (s.rxbuf.set 7 b) q s.turnSpent) :=
      seqStep_stores_last hd s.turnSpent q (by simpa using hp) (by simpa using hlen) (by rw [turnSpent_rxbuf]; rfl)
        ((turnSpent_rxq s).trans hq)
    rw [step_takes, hturn]
    exact hstored
  case request =>
    rw [decode_toList] at hd
    have hfetch : fetchRequest s.turnSpent = some i := by simp [fetchRequest, hd, Except.toOption]
    rw [step_takes, hturn, ← encodeRequest_fetched s.turnSpent i hfetch]
    have hdrain : seqStep s.turnSpent = drainTestStep s.turnSpent := seqStep_drainTest _ (by simpa using hp)
    exact hdrain.trans (by simp [drainTestStep, hq, ho, opXchg])

end Sys2Proof.Machine
end

section
/-!
The queues and the operands (`20_memory.md` rules R48, R49, R53): what any turn can do to RXQ, to TXWIRE and to the
registers an operation takes its operands from.
-/

namespace Sys2Proof.Machine

/-! What the end of a frame read, a TxStep and a clock leave alone. -/

/-- The end of a frame read touches PHASE, OP, the decoded fields and what a classify or an interpret step reports. -/
theorem readEnd_frame (s : State) :
    readEnd s = { s with
      phase := (readEnd s).phase, op := (readEnd s).op, decOpc := (readEnd s).decOpc, decFb := (readEnd s).decFb,
      decP1 := (readEnd s).decP1, decP2 := (readEnd s).decP2, decCkh := (readEnd s).decCkh,
      decCkl := (readEnd s).decCkl, dstat := (readEnd s).dstat, result := (readEnd s).result,
      rkind := (readEnd s).rkind, evlog := (readEnd s).evlog, line := (readEnd s).line } := by
  unfold readEnd endFrameRead
  split
  · rfl
  · split <;> rfl
  · rfl

@[simp] theorem readEnd_rxq (s : State) : (readEnd s).rxq = s.rxq := by rw [readEnd_frame]

@[simp] theorem readEnd_txwire (s : State) : (readEnd s).txwire = s.txwire := by rw [readEnd_frame]

@[simp] theorem txStep_rxq (s : State) : (txStep s).rxq = s.rxq := by rw [txStep_frame]

@[simp] theorem lineTick_phase (bc : Nat) (rx : Bool) (s : State) : (lineTick bc rx s).phase = s.phase := by
  rw [lineTick_frame]

@[simp] theorem lineTick_op (bc : Nat) (rx : Bool) (s : State) : (lineTick bc rx s).op = s.op := by
  rw [lineTick_frame]

@[simp] theorem lineTick_txwire (bc : Nat) (rx : Bool) (s : State) : (lineTick bc rx s).txwire = s.txwire := by
  rw [lineTick_frame]

/-! RXQ (`20_memory.md` rule R49). -/

/-- RXQ goes from `q` to `q'` as it was or with one newest byte. -/
def TakesNewest (q q' : List Byte) : Prop := q' = q ∨ ∃ b, q' = q ++ [b]

theorem arriveInto_takesNewest (d : Nat) (b : Byte) (c : BitVec 3) (s : State) :
    TakesNewest s.rxq (arriveInto d b c s).rxq := by
  rw [arriveInto_rxq]
  split
  · exact .inr ⟨b, rfl⟩
  · exact .inl rfl

/-- A clock queues at most the character whose stop bit it samples. -/
theorem lineTick_takesNewest (bc : Nat) (rx : Bool) (s : State) : TakesNewest s.rxq (lineTick bc rx s).rxq := by
  rw [lineTick_eq]
  rcases takeReport_cases (rxTick bc rx (txTick bc s.line)).2
    { s with line := { (rxTick bc rx (txTick bc s.line)).1 with evt := none } } with h | ⟨b, -, h⟩ | ⟨-, h⟩ <;> rw [h]
  · exact .inl rfl
  · exact arriveInto_takesNewest _ b 0 _
  · exact .inl rfl

/-- A turn queues at most one newest byte, takes the oldest in a frame read, or is a reset. -/
theorem moves_rxq {t : Turn} {s u : State} (h : Moves t s u) :
    TakesNewest s.rxq u.rxq ∨ ((s.phase = .rx ∨ s.phase = .drainRx) ∧ ∃ b, s.rxq = b :: u.rxq) ∨
    (t = .rst ∧ u.rxq = []) := by
  cases h with
  | arrive b => exact .inl (arriveInto_takesNewest _ b _ s)
  | arriveClear b v => exact .inl (arriveInto_takesNewest _ b _ s)
  | clock rx => exact .inl (lineTick_takesNewest bitClocks rx s)
  | clockTimeout rx =>
    rw [readEnd_rxq]
    exact .inl (lineTick_takesNewest bitClocks rx s)
  | store _ b q hp hq => exact .inr (.inl ⟨hp, b, hq⟩)
  | storeLast _ b q hp hq =>
    rw [readEnd_rxq]
    exact .inr (.inl ⟨hp, b, hq⟩)
  | rst => exact .inr (.inr ⟨rfl, rfl⟩)
  | timeout => exact .inl (.inl (readEnd_rxq _))
  | send => exact .inl (.inl (txStep_rxq s))
  | idleWrite => exact .inl (.inl (by rw [writeIdle_frame]))
  | _ => exact .inl (.inl rfl)

/-- Settles O42: each turn by what it does to RXQ. -/
theorem receiveQueueIsFifo : Obligations.ReceiveQueueIsFifo := by
  intro s t hstep
  simpa [TakesNewest, or_assoc] using moves_rxq (moves_step hstep)

/-! TXWIRE (`20_memory.md` rule R48). -/

/-- TxStep puts `TXBUF[IDX]` on the wire, whether or not it leaves the TX phase. -/
theorem txStep_txwire (s : State) : (txStep s).txwire = s.txwire ++ [s.txbuf.get s.idx.toNat] := by
  rcases txStep_cases s with ⟨-, h⟩ | ⟨-, h⟩
  · rw [h, leaveTx_frame]
    rfl
  · rw [h]
    rfl

/-- A turn leaves TXWIRE as it was, or it is a TxStep, or a reset. -/
theorem moves_txwire {t : Turn} {s u : State} (h : Moves t s u) :
    u.txwire = s.txwire ∨ (s.phase = .tx ∧ u = txStep s) ∨ (t = .rst ∧ u.txwire = []) := by
  cases h with
  | send _ hp => exact .inr (.inl ⟨hp, rfl⟩)
  | rst => exact .inr (.inr ⟨rfl, rfl⟩)
  | storeLast | timeout => exact .inl (readEnd_txwire _)
  | clock rx => exact .inl (lineTick_txwire bitClocks rx s)
  | clockTimeout rx => exact .inl ((readEnd_txwire _).trans (lineTick_txwire bitClocks rx s))
  | idleWrite => exact .inl (by rw [writeIdle_frame])
  | _ => exact .inl rfl

/-- Settles O43: the one turn that appends to TXWIRE is a TxStep. -/
theorem wireOnlyGrowsInTxPhase : Obligations.WireOnlyGrowsInTxPhase := by
  intro s t hstep
  rcases moves_txwire (moves_step hstep) with h | ⟨hp, rfl⟩ | hrst
  · exact .inl (by simpa using h)
  · exact .inr (.inl ⟨by simpa using hp, by simp [txStep_txwire], by simp⟩)
  · exact .inr (.inr hrst)

/-! The operand registers and CTRL (`20_memory.md` rule R53). -/

/-- What an operation takes its operands from. -/
structure Operands where
  argOpc : Byte
  argFb : Byte
  argP1 : Byte
  argP2 : Byte
  strict : Bool

/-- The operands a state holds. -/
def State.operands (s : State) : Operands :=
  { argOpc := s.argOpc, argFb := s.argFb, argP1 := s.argP1, argP2 := s.argP2, strict := s.strict }

theorem operands_eq_iff {s u : State} : u.operands = s.operands ↔
    u.argOpc = s.argOpc ∧ u.argFb = s.argFb ∧ u.argP1 = s.argP1 ∧ u.argP2 = s.argP2 ∧ u.strict = s.strict := by
  simp [State.operands]

/-- The end of a frame read leaves the operands alone. -/
theorem readEnd_operands (s : State) : (readEnd s).operands = s.operands := by
  rw [readEnd_frame]
  rfl

/-- So does a timeout of the line level. -/
theorem timedOut_operands (s : State) :
    (readEnd { clearWait (countWait s) with tmo := true }).operands = s.operands :=
  readEnd_operands _

/-- A clock of the line leaves the operands alone. -/
theorem lineTick_operands (bc : Nat) (rx : Bool) (s : State) : (lineTick bc rx s).operands = s.operands := by
  rw [lineTick_frame]
  rfl

/-- The operands change only by a host's write while the block is idle, and by a reset. -/
theorem moves_operands {t : Turn} {s u : State} (h : Moves t s u) (hbusy : s.phase ≠ .idle) (hr : t ≠ .rst) :
    u.operands = s.operands := by
  cases h with
  | idleWrite _ _ _ hidle => exact absurd hidle hbusy
  | rst => exact absurd rfl hr
  | storeLast | timeout => exact readEnd_operands _
  | clock rx => exact lineTick_operands bitClocks rx s
  | clockTimeout rx => exact (timedOut_operands _).trans (lineTick_operands bitClocks rx s)
  | send =>
    rw [txStep_frame]
    rfl
  | _ => rfl

/-- Settles O48: while BUSY the one turn that could write an operand, the host's idle write, is not taken. -/
theorem operandsStableWhileBusy : Obligations.OperandsStableWhileBusy := by
  intro s t hstep hbusy hr
  have hphase : s.turnSpent.phase ≠ .idle := by simpa [State.busy] using hbusy
  simpa using operands_eq_iff.mp (moves_operands (moves_step hstep) hphase hr)

end Sys2Proof.Machine
end

section
/-!
The drain phase (`20_memory.md` rule R51; `43_exchange.md` rules R111, R115, R121; `70_reset_and_hazards.md` rule R258):
XCHG reports every pending frame before it sends its request, and a drain that still finds bytes goes on.
-/

namespace Sys2Proof.Machine

/-! A drain that still finds bytes is left by no turn but `rst`. -/

/-- The drain phase: between its turns or in one (`43_exchange.md` rule R111). -/
def State.draining (s : State) : Prop := s.phase = .drainTest ∨ s.phase = .drainRx

/-- The turn from `s` to `u` leaves the operation in its drain phase with nothing sent. -/
structure DrainGoesOn (s u : State) : Prop where
  draining : u.draining
  op : u.op = s.op
  txwire : u.txwire = s.txwire

theorem readEnd_drainRx {s : State} (h : s.phase = .drainRx) : readEnd s =
    { classifyAs (eventClass Config.startup s.rxbuf.b1 s.rxbuf.b4) (decodeStep s) with phase := .drainTest } :=
  endFrameRead_drainRx _ _ s h

/-- A drain turn that ends goes back to the drain test. -/
theorem readEnd_drainGoesOn {s v : State} (hp : v.phase = .drainRx) (ho : v.op = s.op) (hw : v.txwire = s.txwire) :
    DrainGoesOn s (readEnd v) := by
  rw [readEnd_drainRx hp]
  exact ⟨.inl rfl, ho, hw⟩

/-- A wait that has expired is a wait. -/
theorem waiting_of_waitExpired {n : Nat} {s : State} (h : s.waitExpired n = true) : s.waiting = true := by
  rw [State.waitExpired, Bool.and_eq_true] at h
  exact h.1

/-- In the drain phase only a reset, and a drain test that finds RXQ empty, lead out of it. -/
theorem moves_draining {t : Turn} {s u : State} (h : Moves t s u)
    (hs : s.phase = .drainRx ∨ s.phase = .drainTest ∧ s.rxq ≠ []) (hr : t ≠ .rst) : DrainGoesOn s u := by
  have hd : s.draining := hs.symm.imp_left And.left
  have hread (hp : s.phase = .rx ∨ s.phase = .drainRx) : s.phase = .drainRx := by
    rcases hs with h | ⟨h, -⟩
    · exact h
    · simp [h] at hp
  cases h with
  | rst => exact absurd rfl hr
  | drainDone _ hp _ hq | encode _ hp _ hq => simp [hp, hq] at hs
  | drainTurn => exact ⟨.inr rfl, rfl, rfl⟩
  | storeLast _ _ _ hp => exact readEnd_drainGoesOn (hread hp) rfl rfl
  | timeout _ _ hw => exact readEnd_drainGoesOn (hread (waiting_phase hw).1) rfl rfl
  | clock rx =>
    exact ⟨by simpa [State.draining] using hd, lineTick_op bitClocks rx s, lineTick_txwire bitClocks rx s⟩
  | clockTimeout rx _ _ hw =>
    have hp : s.phase = .drainRx := hread (by simpa using (waiting_phase (waiting_of_waitExpired hw)).1)
    exact readEnd_drainGoesOn ((lineTick_phase bitClocks rx s).trans hp) (lineTick_op bitClocks rx s)
      (lineTick_txwire bitClocks rx s)
  | enc _ h | dec _ h | txf _ h | rxf _ h | drn _ h | xchg _ h | flush _ h | idleWrite _ _ _ h | send _ h
  | flushed _ h => simp [h] at hs
  | pass | read | cmderr | errWrite | store | arrive | arriveClear => exact ⟨hd, rfl, rfl⟩

/-! The sequencer's micro-steps of a frame read and of the drain, as equations. -/

theorem seqStep_drainTurn {s : State} (hp : s.phase = .drainTest) (hq : s.rxq ≠ []) :
    seqStep s = .next (readFrameBegin { s with phase := .drainRx }) := by
  rw [seqStep_drainTest s hp, drainTestStep, if_neg (by simpa using hq)]

theorem seqStep_encode {s : State} (hp : s.phase = .drainTest) (ho : s.op = opXchg) (hq : s.rxq = []) :
    seqStep s = .next (enterTx (encodeArgs s)) := by
  rw [seqStep_drainTest s hp, drainTestStep, if_pos (by simp [hq]), if_pos ho, encodeRequest_eq s hp ho hq]

theorem seqStep_store {s : State} {b : Byte} {q : List Byte} (hp : s.phase = .rx ∨ s.phase = .drainRx)
    (hq : s.rxq = b :: q) (he : (storeByte b q s).readEnds b = false) : seqStep s = .next (storeByte b q s) := by
  rw [seqStep_reading s hp, rxStep_goes_on s b q hq he]

theorem seqStep_storeLast {s : State} {b : Byte} {q : List Byte} (hp : s.phase = .rx ∨ s.phase = .drainRx)
    (hq : s.rxq = b :: q) (he : (storeByte b q s).readEnds b = true) :
    seqStep s = .next (readEnd (storeByte b q s)) := by
  rw [seqStep_reading s hp, rxStep_ends s b q hq he]
  exact frameReadEnds_eq _ hp

/-! Runs, step by step. -/

theorem core_run_succ (M : Host.Core) {s u : M.State} (h : M.step s = .next u) (k : Nat) :
    M.run (k + 1) s = M.run k u := by
  simp only [Host.Core.run, h]

/-- A run takes its first step and goes on from there. -/
theorem run_succ {s u : State} (h : step s = .next u) (k : Nat) : core.run (k + 1) s = core.run k u :=
  core_run_succ core h k

/-! Arrivals without pause (`43_exchange.md` rule R121; `70_reset_and_hazards.md` rule R258). -/

/-- One arrival and one turn of the sequencer for each byte. -/
def arrivalTurns (cs : List Byte) : List Turn := cs.flatMap fun c => [.arrive c, .seq]

/-- At byte level a drain goes on under the endless arrivals of `b` and `bs`, an arrival being due, or the sequencer
with a byte waiting. -/
structure DrainUnderArrivals (b : Byte) (bs : List Byte) (s : State) : Prop where
  byteLevel : s.level = .byteLevel
  later : s.later = .again (.arrive b) (.seq :: arrivalTurns bs)
  draining : s.draining
  due : ∃ cs, s.agenda = arrivalTurns cs ∨ s.agenda = .seq :: arrivalTurns cs ∧ s.rxq ≠ []

/-- A byte that arrives leaves RXQ with a byte in it, queued or dropped. -/
theorem arrive_rxq_ne_nil (b : Byte) (s : State) : (arrive b s).rxq ≠ [] := by
  by_cases h : s.rxq.length < Config.rxqDepth
  · simp [arrive_queued b s h]
  · have hfull : Config.rxqDepth ≤ s.rxq.length := Nat.le_of_not_lt h
    have hpos : 0 < s.rxq.length := Nat.lt_of_lt_of_le (by decide) (eight_le_rxqDepth.trans hfull)
    simpa [arrive_dropped b s hfull] using List.length_pos_iff.mp hpos

/-- An arrival whose turn is spent leaves the sequencer due with a byte waiting. -/
theorem step_arrival {b : Byte} {bs : List Byte} {s : State} (h : DrainUnderArrivals b bs s) {c : Byte}
    {cs : List Byte} (ht : s.nextTurn = .arrive c)
    (hs : s.turnSpent = { s with agenda := .seq :: arrivalTurns cs }) :
    ∃ t, step s = .next t ∧ DrainUnderArrivals b bs t ∧ DrainGoesOn s t := by
  refine ⟨arrive c { s with agenda := .seq :: arrivalTurns cs }, ?_, ?_, h.draining, rfl, rfl⟩
  · rw [step_takes, ht, hs]
    exact linkTurn_byteLevel c 0 _ h.byteLevel
  · exact ⟨h.byteLevel, h.later, h.draining, cs, .inr ⟨rfl, arrive_rxq_ne_nil c _⟩⟩

/-- With a byte waiting the sequencer's micro-step of the drain stays at this level and schedule. -/
theorem seqStep_drain {s : State} (hd : s.draining) (hq : s.rxq ≠ []) :
    ∃ t, seqStep s = .next t ∧ DrainGoesOn s t ∧ t.level = s.level ∧ t.agenda = s.agenda ∧ t.later = s.later := by
  rcases hd with hp | hp
  · exact ⟨_, seqStep_drainTurn hp hq, ⟨.inr rfl, rfl, rfl⟩, rfl, rfl, rfl⟩
  obtain ⟨c, q, hcq⟩ := List.exists_cons_of_ne_nil hq
  cases he : (storeByte c q s).readEnds c with
  | false => exact ⟨_, seqStep_store (.inr hp) hcq he, ⟨.inr hp, rfl, rfl⟩, rfl, rfl, rfl⟩
  | true =>
    refine ⟨_, seqStep_storeLast (.inr hp) hcq he, readEnd_drainGoesOn hp rfl rfl, ?_⟩
    rw [readEnd_frame]
    exact ⟨rfl, rfl, rfl⟩

/-- Under endless arrivals each step keeps the drain going. -/
theorem step_drainUnderArrivals {b : Byte} {bs : List Byte} {s : State} (h : DrainUnderArrivals b bs s) :
    ∃ t, step s = .next t ∧ DrainUnderArrivals b bs t ∧ DrainGoesOn s t := by
  obtain ⟨cs, ha | ⟨ha, hq⟩⟩ := h.due
  · cases cs with
    | nil =>
      obtain ⟨ht, hs⟩ := turnSpent_again s _ _ ha h.later
      exact step_arrival h ht hs
    | cons c cs =>
      obtain ⟨ht, hs⟩ := turnSpent_agenda s (.arrive c) (.seq :: arrivalTurns cs) ha
      exact step_arrival h ht hs
  · obtain ⟨t, hstep, hgoes, hlevel, hagenda, hlater⟩ :=
      seqStep_drain (s := { s with agenda := arrivalTurns cs }) h.draining hq
    refine ⟨t, (step_turn s .seq _ ha).trans hstep, ?_, hgoes.draining, hgoes.op, hgoes.txwire⟩
    exact ⟨hlevel.trans h.byteLevel, hlater.trans h.later, hgoes.draining, cs, .inl hagenda⟩

/-- Under endless arrivals the drain has not ended after any number of steps. -/
theorem run_drainUnderArrivals {b : Byte} {bs : List Byte} (k : Nat) {s : State} (h : DrainUnderArrivals b bs s) :
    ∃ t, core.run k s = .next t ∧ DrainGoesOn s t := by
  induction k generalizing s with
  | zero => exact ⟨s, rfl, h.draining, rfl, rfl⟩
  | succ k ih =>
    obtain ⟨u, hstep, hu, hgoes⟩ := step_drainUnderArrivals h
    obtain ⟨t, hrun, hd, hop, hw⟩ := ih hu
    exact ⟨t, (run_succ hstep k).trans hrun, hd, hop.trans hgoes.op, hw.trans hgoes.txwire⟩

/-! Runs whose every state meets a condition. -/

/-- `n` steps lead from `s` to `t`, through states that all meet `P`. -/
inductive RunsThrough (P : State → Prop) : Nat → State → State → Prop where
  | done {s : State} (hs : P s) : RunsThrough P 0 s s
  | step {s u t : State} {n : Nat} (hs : P s) (h : step s = .next u) (hr : RunsThrough P n u t) :
      RunsThrough P (n + 1) s t

namespace RunsThrough

variable {P Q : State → Prop} {n m : Nat} {s u t : State}

theorem mono (h : ∀ v, P v → Q v) (hr : RunsThrough P n s t) : RunsThrough Q n s t := by
  induction hr with
  | done hs => exact .done (h _ hs)
  | step hs hstep _ ih => exact .step (h _ hs) hstep ih

theorem trans (h₁ : RunsThrough P n s u) (h₂ : RunsThrough P m u t) : RunsThrough P (n + m) s t := by
  induction h₁ with
  | done => exact (Nat.zero_add m).symm ▸ h₂
  | step hs hstep _ ih => exact (Nat.succ_add _ m).symm ▸ .step hs hstep (ih h₂)

/-- What follows such a run is a run from where it ends. -/
theorem run_add (hr : RunsThrough P n s t) (k : Nat) : core.run (n + k) s = core.run k t := by
  induction hr with
  | done => rw [Nat.zero_add]
  | step _ hstep _ ih => rw [Nat.succ_add, run_succ hstep, ih]

theorem run_eq (hr : RunsThrough P n s t) : core.run n s = .next t := hr.run_add 0

theorem at_end (hr : RunsThrough P n s t) : P t := by
  induction hr with
  | done hs => exact hs
  | step _ _ _ ih => exact ih

/-- Every state on the way meets the condition. -/
theorem at_each (hr : RunsThrough P n s t) : ∀ k ≤ n, ∃ v, core.run k s = .next v ∧ P v := by
  induction hr with
  | done hs => exact fun k hk => ⟨_, by rw [Nat.le_zero.mp hk]; rfl, hs⟩
  | step hs hstep _ ih =>
    rintro (_ | k) hk
    · exact ⟨_, rfl, hs⟩
    · obtain ⟨v, hrun, hv⟩ := ih k (Nat.le_of_succ_le_succ hk)
      exact ⟨v, (run_succ hstep k).trans hrun, hv⟩

end RunsThrough

/-! The block left to itself at byte level. -/

/-- At byte level nothing more comes from outside (log entry 1). -/
structure State.Alone (s : State) : Prop where
  byteLevel : s.level = .byteLevel
  agenda : s.agenda = []
  later : s.later = .quiet

/-- Then the step is the sequencer's while it has one. -/
theorem step_alone {s : State} (h : s.Alone) (he : s.seqEnabled = true) : step s = seqStep s := by
  rw [step_own s h.agenda h.later, ownTurn_seq s he]
  rfl

/-! One frame drained (`43_exchange.md` rules R111, R112). -/

/-- `s` with every field a drain writes blanked: what is left of it, the drain leaves alone. -/
def State.undrained (s : State) : State :=
  { s with
    phase := .drainTest, tmo := false, rxlen := 0, dstat := 0, rxbuf := Buf8.zero, decOpc := 0, decFb := 0, decP1 := 0
    decP2 := 0, decCkh := 0, decCkl := 0, rxq := [], evlog := [] }

/-- From `s` to `u` only fields that a drain writes have changed. -/
def DrainKeeps (s u : State) : Prop := u.undrained = s.undrained

theorem DrainKeeps.trans {s u v : State} (h₁ : DrainKeeps s u) (h₂ : DrainKeeps u v) : DrainKeeps s v :=
  Eq.trans h₂ h₁

/-- What can be told of a state without the blanked fields is as it was. -/
theorem DrainKeeps.field {α : Type} {s u : State} (h : DrainKeeps s u) (g : State → α) :
    g u.undrained = g s.undrained :=
  congrArg g h

theorem DrainKeeps.strict {s u : State} (h : DrainKeeps s u) : u.strict = s.strict := h.field State.strict

theorem DrainKeeps.alone {s u : State} (h : DrainKeeps s u) (hs : s.Alone) : u.Alone where
  byteLevel := (h.field State.level).trans hs.byteLevel
  agenda := (h.field State.agenda).trans hs.agenda
  later := (h.field State.later).trans hs.later

/-- A frame read has stored the bytes `f`. -/
structure Stored (f : List Byte) (s : State) : Prop where
  rxbuf : s.rxbuf = fillBuffer f
  rxlen : s.rxlen = BitVec.ofNat 4 f.length

/-- A drain turn ends: the record of the stored frame is appended, and the drain test is next. -/
theorem readEnd_drained {s : State} {f : List Byte} (hp : s.phase = .drainRx) (hl : s.level = .byteLevel)
    (hf : Stored f s) :
    DrainKeeps s (readEnd s) ∧ (readEnd s).phase = .drainTest ∧
      (readEnd s).evlog = s.evlog ++ [drainedEvent s.strict f] := by
  rw [readEnd_drainRx hp]
  refine ⟨?_, rfl, ?_⟩
  · simp [DrainKeeps, State.undrained, classifyAs, emit, strobe, hl, decodeStep]
  · simp [classifyAs, State.eventOf, State.classEmitted, State.usable, State.valid, drainedEvent, hf.rxbuf, hf.rxlen]

/-! The bytes of a frame that a byte ended (`42_uart.md` rule R95). -/

theorem endedFrame_ne_nil {f : List Byte} (h : endedFrame f) : f ≠ [] := by
  rintro rfl
  obtain ⟨-, -, hlast⟩ := h
  simp at hlast

/-- A byte before the last neither is the terminator nor fills the buffer. -/
theorem endedFrame_inner {f more : List Byte} {b : Byte} (h : endedFrame (f ++ b :: more)) (hm : more ≠ []) :
    b ≠ endMarker ∧ f.length + 1 < 8 := by
  obtain ⟨hlen, hinner, -⟩ := h
  have hpos : 0 < more.length := List.length_pos_iff.mpr hm
  refine ⟨hinner b ?_, ?_⟩
  · rw [List.dropLast_append_of_ne_nil (List.cons_ne_nil b more), List.dropLast_cons_of_ne_nil hm]
    simp
  · simp only [List.length_append, List.length_cons] at hlen
    omega

/-- The last byte is the terminator or fills the buffer. -/
theorem endedFrame_last {f : List Byte} {b : Byte} (h : endedFrame (f ++ [b])) :
    f.length < 8 ∧ (b = endMarker ∨ f.length + 1 = 8) := by
  obtain ⟨hlen, -, hlast⟩ := h
  simp only [List.length_append, List.length_singleton, List.getLast?_concat, Option.some.injEq] at hlen hlast
  exact ⟨hlen, hlast⟩

/-- The offset after the bytes of `f` takes the next byte. -/
theorem fillBuffer_set (f : List Byte) (b : Byte) (h : f.length < 8) :
    (fillBuffer f).set f.length b = fillBuffer (f ++ [b]) := by
  match f with
  | [] | [_] | [_, _] | [_, _, _] | [_, _, _, _] | [_, _, _, _, _] | [_, _, _, _, _, _] | [_, _, _, _, _, _, _] => rfl
  | _ :: _ :: _ :: _ :: _ :: _ :: _ :: _ :: _ =>
    simp only [List.length_cons] at h
    omega

/-- RxStep stores the next byte behind those already stored. -/
theorem Stored.storeByte {f : List Byte} {s : State} (h : Stored f s) (hf : f.length < 8) (b : Byte) (q : List Byte) :
    Stored (f ++ [b]) (storeByte b q s) where
  rxbuf := by
    have hoffset : s.rxlen.toNat = f.length := by
      rw [h.rxlen, BitVec.toNat_ofNat, Nat.mod_eq_of_lt (by omega)]
    rw [storeByte_rxbuf, h.rxbuf, hoffset, fillBuffer_set f b hf]
  rxlen := by
    rw [storeByte_rxlen, h.rxlen, List.length_append, List.length_singleton, BitVec.ofNat_add]
    rfl

/-- The read ends with the terminator and with the eighth byte. -/
theorem Stored.readEnds_iff {f : List Byte} {s : State} (h : Stored f s) (hf : f.length ≤ 8) (b : Byte) :
    s.readEnds b = true ↔ b = endMarker ∨ f.length = 8 := by
  have hlen : BitVec.ofNat 4 f.length = 8 ↔ f.length = 8 := by
    interval_cases f.length <;> decide
  rw [State.readEnds, h.rxlen, Bool.or_eq_true, beq_iff_eq, beq_iff_eq, hlen]

/-- A drain turn under way reads the rest of its frame and reports it. -/
theorem drainRx_reports (more : List Byte) (hm : more ≠ []) (f rest : List Byte) (s : State) (hs : s.Alone)
    (hp : s.phase = .drainRx) (hf : Stored f s) (hq : s.rxq = more ++ rest) (he : endedFrame (f ++ more)) :
    ∃ t, RunsThrough (DrainKeeps s) more.length s t ∧ t.phase = .drainTest ∧ t.rxq = rest ∧
      t.evlog = s.evlog ++ [drainedEvent s.strict (f ++ more)] := by
  induction more generalizing f s with
  | nil => exact absurd rfl hm
  | cons b more ih =>
    have henabled : s.seqEnabled = true := by simp [State.seqEnabled, hp, hq]
    by_cases hmore : more = []
    · subst hmore
      obtain ⟨hlt, hend⟩ := endedFrame_last he
      have hstored : Stored (f ++ [b]) (storeByte b rest s) := hf.storeByte hlt b rest
      have hends : (storeByte b rest s).readEnds b = true := by
        rw [hstored.readEnds_iff (by simpa using hlt)]
        simpa using hend
      obtain ⟨hkeeps, hphase, hlog⟩ := readEnd_drained (s := storeByte b rest s) hp hs.byteLevel hstored
      have hstep := (step_alone hs henabled).trans (seqStep_storeLast (.inr hp) hq hends)
      exact ⟨_, .step rfl hstep (.done hkeeps), hphase, readEnd_rxq _, hlog⟩
    · obtain ⟨hne, hlt⟩ := endedFrame_inner he hmore
      have hstored : Stored (f ++ [b]) (storeByte b (more ++ rest) s) := hf.storeByte (by omega) b (more ++ rest)
      have hends : (storeByte b (more ++ rest) s).readEnds b = false := by
        rw [Bool.eq_false_iff, Ne, hstored.readEnds_iff (by simpa using hlt.le)]
        simpa [hne] using hlt.ne
      have hstep := (step_alone hs henabled).trans (seqStep_store (.inr hp) hq hends)
      obtain ⟨t, hrun, hphase, hrest, hlog⟩ := ih hmore (f ++ [b]) (storeByte b (more ++ rest) s)
        ⟨hs.byteLevel, hs.agenda, hs.later⟩ hp hstored rfl (by simpa using he)
      exact ⟨t, .step rfl hstep hrun, hphase, hrest, by simpa using hlog⟩

/-- A drain test that finds a whole frame begins a turn that reports it. -/
theorem drainTest_reports {f rest : List Byte} {s : State} (hs : s.Alone) (hp : s.phase = .drainTest)
    (hq : s.rxq = f ++ rest) (he : endedFrame f) :
    ∃ t, RunsThrough (DrainKeeps s) (f.length + 1) s t ∧ t.phase = .drainTest ∧ t.rxq = rest ∧
      t.evlog = s.evlog ++ [drainedEvent s.strict f] := by
  have hne : s.rxq ≠ [] := by simp [hq, endedFrame_ne_nil he]
  have hstep : step s = .next (readFrameBegin { s with phase := .drainRx }) :=
    (step_alone hs (by simp [State.seqEnabled, hp])).trans (seqStep_drainTurn hp hne)
  obtain ⟨t, hrun, hphase, hrest, hlog⟩ := drainRx_reports f (endedFrame_ne_nil he) [] rest
    (readFrameBegin { s with phase := .drainRx }) ⟨hs.byteLevel, hs.agenda, hs.later⟩ rfl ⟨rfl, rfl⟩ hq he
  exact ⟨t, .step rfl hstep hrun, hphase, hrest, hlog⟩

/-- The drain reports every queued frame, in order, and ends at a drain test with RXQ empty (`43_exchange.md` rule
R111). -/
theorem drain_reports_all (frames : List (List Byte)) (hframes : ∀ f ∈ frames, endedFrame f) (s : State) (hs : s.Alone)
    (hp : s.phase = .drainTest) (hq : s.rxq = frames.flatten) :
    ∃ t, RunsThrough (DrainKeeps s) (frames.length + frames.flatten.length) s t ∧ t.phase = .drainTest ∧ t.rxq = [] ∧
      t.evlog = s.evlog ++ frames.map (drainedEvent s.strict) := by
  induction frames generalizing s with
  | nil => exact ⟨s, .done rfl, hp, hq, by simp⟩
  | cons f frames ih =>
    obtain ⟨hf, hframes⟩ := List.forall_mem_cons.mp hframes
    obtain ⟨u, hrun₁, hpu, hqu, hlogu⟩ := drainTest_reports hs hp hq hf
    have hu : DrainKeeps s u := hrun₁.at_end
    obtain ⟨t, hrun₂, hpt, hqt, hlogt⟩ := ih hframes u (hu.alone hs) hpu hqu
    have hcount : f.length + 1 + (frames.length + frames.flatten.length) =
        (f :: frames).length + (f :: frames).flatten.length := by
      simp only [List.length_cons, List.flatten_cons, List.length_append]
      omega
    refine ⟨t, hcount ▸ hrun₁.trans (hrun₂.mono fun _ => hu.trans), hpt, hqt, ?_⟩
    rw [hlogt, hlogu, hu.strict]
    simp

/-! The request is sent whole (`42_uart.md` rule R91; `43_exchange.md` rule R115). -/

/-- The bytes still to be sent, the next one first. -/
theorem toList_drop (f : Buf8) (i : Nat) (h : i < 8) : f.toList.drop i = f.get i :: f.toList.drop (i + 1) := by
  interval_cases i <;> rfl

/-- `s` with the bytes `bs` sent and IDX at `n`. -/
def afterSending (n : BitVec 4) (bs : List Byte) (s : State) : State := { s with idx := n, txwire := s.txwire ++ bs }

theorem afterSending_twice (n m : BitVec 4) (bs cs : List Byte) (s : State) :
    afterSending n bs (afterSending m cs s) = afterSending n (cs ++ bs) s := by
  simp [afterSending]

/-- The reply read begins. -/
def beginReply (s : State) : State := readFrameBegin { s with phase := .rx }

/-- At byte level `WireTx` appends to TXWIRE and touches nothing else. -/
theorem wireTx_byteLevel {s : State} (hl : s.level = .byteLevel) (n : BitVec 4) (b : Byte) :
    wireTx b { s with idx := n } = afterSending n [b] s := by
  simp [wireTx, loadHold, hl, afterSending]

/-- A TxStep before the eighth. -/
theorem txStep_more {s : State} (hl : s.level = .byteLevel) (hi : s.idx.toNat < 7) :
    txStep s = afterSending (s.idx + 1) [s.txbuf.get s.idx.toNat] s := by
  rcases txStep_cases s with ⟨h, -⟩ | ⟨-, h⟩
  · bv_omega
  · exact h.trans (wireTx_byteLevel hl _ _)

/-- XCHG's eighth TxStep. -/
theorem txStep_eighth {s : State} (hl : s.level = .byteLevel) (ho : s.op = opXchg) (hi : s.idx.toNat = 7) :
    txStep s = beginReply (afterSending 8 [s.txbuf.get s.idx.toNat] s) := by
  have h8 : s.idx + 1 = 8 := by bv_omega
  rcases txStep_cases s with ⟨-, h⟩ | ⟨h, -⟩
  · rw [h, wireTx_byteLevel hl, h8]
    exact leaveTx_xchg _ ho
  · exact absurd h8 h

/-- The step of a TX phase left to itself. -/
theorem step_tx {s : State} (hs : s.Alone) (hp : s.phase = .tx) : step s = .next (txStep s) := by
  have hready : s.txReady = true := by simp [State.txReady, hs.byteLevel]
  rw [step_alone hs (by simp [State.seqEnabled, hp, hready]), seqStep_tx s hp hready]

/-- XCHG's TX phase sends what is left of TXBUF, one byte a step, and begins the reply read. -/
theorem run_txPhase (k : Nat) (s : State) (hs : s.Alone) (hp : s.phase = .tx) (ho : s.op = opXchg)
    (hk : s.idx.toNat + k = 7) :
    core.run (k + 1) s = .next (beginReply (afterSending 8 (s.txbuf.toList.drop s.idx.toNat) s)) := by
  refine (run_succ (step_tx hs hp) k).trans ?_
  rw [toList_drop _ _ (by omega)]
  induction k generalizing s with
  | zero =>
    rw [txStep_eighth hs.byteLevel ho hk, show s.idx.toNat = 7 from hk]
    rfl
  | succ k ih =>
    have hidx : (s.idx + 1).toNat = s.idx.toNat + 1 := by bv_omega
    have hu : (afterSending (s.idx + 1) [s.txbuf.get s.idx.toNat] s).Alone := ⟨hs.byteLevel, hs.agenda, hs.later⟩
    have hrest := ih _ hu hp ho (show (s.idx + 1).toNat + k = 7 by omega)
    rw [txStep_more hs.byteLevel (by omega), run_succ (step_tx hu hp), hrest, afterSending_twice]
    rw [toList_drop s.txbuf (s.idx.toNat + 1) (by omega), ← hidx]
    rfl

/-! XCHG with frames pending. -/

/-- From `s` to `u` nothing has been sent or built and no result given. -/
structure NothingSent (s u : State) : Prop where
  txwire : u.txwire = s.txwire
  txbuf : u.txbuf = s.txbuf
  result : u.result = s.result
  rkind : u.rkind = s.rkind

/-- XCHG issued by the last turn that comes from outside. -/
def issuedXchg (s : State) : State := beginXchg { s with agenda := [] }

theorem step_issueXchg {s : State} (hp : s.phase = .idle) (ha : s.agenda = [.hostWrite 0x00 0x06]) :
    step s = .next (issuedXchg s) := by
  rw [step_turn s _ [] ha]
  exact congrArg Host.Outcome.next (issue_idle beginXchg _ hp)

/-- Neither the issue nor the drain sends, builds or interprets anything. -/
theorem nothingSent_of_drain {s u : State} (h : DrainKeeps (issuedXchg s) u) : NothingSent s u :=
  ⟨h.field State.txwire, h.field State.txbuf, h.field State.result, h.field State.rkind⟩

/-- XCHG from its issue to the drain test that finds RXQ empty: every queued frame has been reported, and on the way
nothing is sent, built or taken for a reply. -/
theorem xchg_drains {s : State} {frames : List (List Byte)} (hp : s.phase = .idle) (hs : (issuedXchg s).Alone)
    (hframes : ∀ f ∈ frames, endedFrame f) (hq : s.rxq = frames.flatten) (ha : s.agenda = [.hostWrite 0x00 0x06]) :
    ∃ t, RunsThrough (NothingSent s) (1 + frames.length + frames.flatten.length) s t ∧
      DrainKeeps (issuedXchg s) t ∧ t.phase = .drainTest ∧ t.rxq = [] ∧
      t.evlog = s.evlog ++ frames.map (drainedEvent s.strict) := by
  obtain ⟨t, hrun, hpt, hqt, hlog⟩ := drain_reports_all frames hframes (issuedXchg s) hs rfl hq
  refine ⟨t, ?_, hrun.at_end, hpt, hqt, hlog⟩
  rw [Nat.add_assoc, Nat.add_comm]
  exact .step ⟨rfl, rfl, rfl, rfl⟩ (step_issueXchg hp ha) (hrun.mono fun _ => nothingSent_of_drain)

/-- The request has been built from the operands of `s` and sent whole, and the reply read begins. -/
def requestSent (s : State) : State :=
  beginReply (afterSending 8 (mkFrame s.argOpc s.argFb s.argP1 s.argP2).toList (enterTx (encodeArgs s)))

/-- XCHG's drain test that finds RXQ empty builds the request; eight steps later it has been sent whole and the reply
read has begun. -/
theorem xchg_sends {t : State} (ht : t.Alone) (hp : t.phase = .drainTest) (ho : t.op = opXchg) (hq : t.rxq = []) :
    core.run 1 t = .next (enterTx (encodeArgs t)) ∧ core.run 9 t = .next (requestSent t) := by
  have hstep : step t = .next (enterTx (encodeArgs t)) :=
    (step_alone ht (by simp [State.seqEnabled, hp])).trans (seqStep_encode hp ho hq)
  exact ⟨run_succ hstep 0, (run_succ hstep 8).trans
    (run_txPhase 7 (enterTx (encodeArgs t)) ⟨ht.byteLevel, ht.agenda, ht.later⟩ rfl ho rfl)⟩

/-- Settles O18: the drain reports frame after frame, then the request is built and sent; under endless arrivals, and in
general while a byte or a drain turn is left, no turn but `rst` ends the drain. -/
theorem xchgDrainsBeforeItSends : Obligations.XchgDrainsBeforeItSends := by
  refine ⟨fun s frames hp hl hframes hq ha hlater => ?pending, fun s b bs k hl hd ha hlater => ?endless,
    fun s t hs hr hstep => ?onlyRst⟩
  case pending =>
    have hissued : (issuedXchg s).Alone := ⟨hl, rfl, hlater⟩
    obtain ⟨t, hdrain, hkeeps, hpt, hqt, hlog⟩ := xchg_drains hp hissued hframes hq ha
    obtain ⟨hbuilt, hsent⟩ := xchg_sends (hkeeps.alone hissued) hpt (hkeeps.field State.op) hqt
    obtain ⟨hwire, -, hresult, hrkind⟩ := hdrain.at_end
    have hrequest : mkFrame t.argOpc t.argFb t.argP1 t.argP2 = mkFrame s.argOpc s.argFb s.argP1 s.argP2 :=
      hkeeps.field fun v => mkFrame v.argOpc v.argFb v.argP1 v.argP2
    have hfirst : 2 + frames.length + frames.flatten.length = 1 + frames.length + frames.flatten.length + 1 := by omega
    refine ⟨fun k hk => ?_, ⟨t, hdrain.run_eq, hpt, hqt, hlog⟩, ⟨enterTx (encodeArgs t), ?_⟩,
      ⟨requestSent t, ?_, ?_⟩⟩
    · obtain ⟨v, hrun, hv⟩ := hdrain.at_each k hk
      exact ⟨v, hrun, hv.txwire, hv.txbuf, hv.result, hv.rkind⟩
    · rw [hfirst]
      exact ⟨(hdrain.run_add 1).trans hbuilt, rfl, hqt, hlog, hrequest, hwire, hresult, hrkind⟩
    · rw [hfirst]
      exact (hdrain.run_add 9).trans hsent
    · refine ⟨hlog, ?_, rfl, hkeeps.field State.op, hqt, rfl, rfl, hresult, hrkind⟩
      rw [← hwire, ← hrequest]
      rfl
  case endless =>
    obtain ⟨t, hrun, hgoes⟩ := run_drainUnderArrivals k (s := s) (b := b) (bs := bs) ⟨hl, hlater, hd, [], .inl ha⟩
    exact ⟨t, hrun, hgoes.draining, hgoes.op, hgoes.txwire⟩
  case onlyRst =>
    obtain ⟨hd, hop, hwire⟩ := moves_draining (moves_step hstep) (by simpa using hs) hr
    exact ⟨hd, by simpa using hop, by simpa using hwire⟩

end Sys2Proof.Machine
end

section
/-!
The encoding (`30_encoding.md` rules R60, R64, R65, R68): the two tables of rows, and decoding as the inverse of
encoding.
-/

namespace Sys2Proof.Machine

/-! Looking a row up by its key. -/

/-- In a table whose keys are distinct, looking up a row's key finds that row. -/
theorem find?_row_eq_some_iff {α : Type} {rows : List (Byte × α)} (hkeys : (rows.map Prod.fst).Nodup) {c : Byte}
    {r : Byte × α} : rows.find? (fun r => r.1 == c) = some r ↔ r ∈ rows ∧ r.1 = c := by
  constructor
  · intro h
    exact ⟨List.mem_of_find?_eq_some h, by simpa using List.find?_some h⟩
  · rintro ⟨hr, rfl⟩
    have hsome : (rows.find? (fun r' => r'.1 == r.1)).isSome := List.find?_isSome.mpr ⟨r, hr, beq_self_eq_true r.1⟩
    obtain ⟨r', hfound⟩ := Option.isSome_iff_exists.mp hsome
    have hkey : r'.1 = r.1 := by simpa using List.find?_some hfound
    rw [hfound, List.inj_on_of_nodup_map hkeys (List.mem_of_find?_eq_some hfound) hr hkey]

theorem frameRows_opcodes_nodup : (frameRows.map Prod.fst).Nodup := by decide

theorem commandRows_codes_nodup : (commandRows.map Prod.fst).Nodup := by decide

/-! Frames. -/

/-- Every instruction that has an opcode is a row of the frame table. -/
theorem frameRow_of_opcodeOf {i : Instr} {o : Byte} {p : Payload} (h : i.opcodeOf = some (o, p)) :
    ∃ r ∈ frameRows, r.1 = o ∧ i = r.2 p := by
  cases i
  case enc | dec | txf | rxf | drn | xchg | flush => cases h
  all_goals
    cases h
    exact ⟨(_, _), by simp [frameRows], rfl, rfl⟩

/-- Between the markers a row's opcode decodes to the row's instruction. -/
theorem decodeFrame_frameBytes {r : Byte × (Payload → Instr)} (hr : r ∈ frameRows) (p : Payload) :
    decodeFrame (frameBytes r.1 p) = .ok (r.2 p) := by
  have hfound := (find?_row_eq_some_iff frameRows_opcodes_nodup).mpr ⟨hr, rfl⟩
  simp [decodeFrame, frameBytes, hfound]

/-- A frame decodes to an instruction exactly if it is the frame of the instruction's opcode and free bytes. -/
theorem decodeFrame_eq_ok_iff {f : Buf8} {i : Instr} :
    decodeFrame f = .ok i ↔ ∃ o p, i.opcodeOf = some (o, p) ∧ frameBytes o p = f := by
  constructor
  · intro h
    obtain ⟨h0, h7, r, hr, h1, rfl⟩ := decodeFrame_ok h
    refine ⟨r.1, ⟨f.b2, f.b3, f.b4, f.b5, f.b6⟩, (frameRows_fit r hr _ State.reset).1, ?_⟩
    rw [frameBytes, h1, ← h0, ← h7]
  · rintro ⟨o, p, hop, rfl⟩
    obtain ⟨r, hr, rfl, rfl⟩ := frameRow_of_opcodeOf hop
    exact decodeFrame_frameBytes hr p

/-- Between the markers an opcode that heads no row is refused by name. -/
theorem decodeFrame_unlisted {f : Buf8} (h0 : f.b0 = startMarker) (h7 : f.b7 = endMarker)
    (h1 : f.b1 ∉ frameRows.map Prod.fst) : decodeFrame f = .error (.unlistedOpcode f.b1) := by
  have hnone : frameRows.find? (fun r => r.1 == f.b1) = none := by
    rw [List.find?_eq_none]
    intro r hr hkey
    exact h1 (List.mem_map.mpr ⟨r, hr, by simpa using hkey⟩)
  simp [decodeFrame, h0, h7, hnone]

/-- Between the markers an opcode that heads a row is an instruction. -/
theorem decodeFrame_listed {f : Buf8} (h0 : f.b0 = startMarker) (h7 : f.b7 = endMarker)
    (h1 : f.b1 ∈ frameRows.map Prod.fst) : ∃ i, decodeFrame f = .ok i := by
  obtain ⟨r, hr, hkey⟩ := List.mem_map.mp h1
  have hf : frameBytes r.1 ⟨f.b2, f.b3, f.b4, f.b5, f.b6⟩ = f := by rw [frameBytes, hkey, ← h0, ← h7]
  exact ⟨_, hf ▸ decodeFrame_frameBytes hr _⟩

/-! Commands. -/

/-- The rows of the command table are the block operations, each under its command code. -/
theorem mem_commandRows_iff {c : Byte} {i : Instr} : (c, i) ∈ commandRows ↔ i.opcodeOf = none ∧ commandCode i = c := by
  cases i <;> simp [commandRows, Instr.opcodeOf, commandCode, eq_comm (b := c)]

/-- A byte decodes to an instruction exactly if it is the command code of that block operation. -/
theorem decodeCommand_eq_ok_iff {c : Byte} {i : Instr} :
    decodeCommand c = .ok i ↔ i.opcodeOf = none ∧ commandCode i = c := by
  rw [← mem_commandRows_iff]
  unfold decodeCommand
  constructor
  · intro h
    split at h
    next r hr =>
      cases h
      obtain ⟨hmem, rfl⟩ := (find?_row_eq_some_iff commandRows_codes_nodup).mp hr
      exact hmem
    next => cases h
  · intro hmem
    rw [(find?_row_eq_some_iff commandRows_codes_nodup).mpr ⟨hmem, rfl⟩]

/-! Both widths. -/

theorem encode_frame {i : Instr} {o : Byte} {p : Payload} (h : i.opcodeOf = some (o, p)) :
    encode i = (frameBytes o p).toList := by
  simp [encode, h]

theorem encode_command {i : Instr} (h : i.opcodeOf = none) : encode i = [commandCode i] := by
  simp [encode, h]

/-- Bytes that decode are one command byte or the eight bytes of a frame. -/
theorem decode_eq_ok_cases {bs : List Byte} {i : Instr} (h : decode bs = .ok i) :
    (∃ c, bs = [c] ∧ decodeCommand c = .ok i) ∨ ∃ f : Buf8, bs = f.toList ∧ decodeFrame f = .ok i := by
  unfold decode at h
  split at h
  next c => exact .inl ⟨c, rfl, h⟩
  next b0 b1 b2 b3 b4 b5 b6 b7 => exact .inr ⟨⟨b0, b1, b2, b3, b4, b5, b6, b7⟩, rfl, h⟩
  next => cases h

theorem encode_of_decode {bs : List Byte} {i : Instr} (h : decode bs = .ok i) : encode i = bs := by
  obtain ⟨c, rfl, hc⟩ | ⟨f, rfl, hf⟩ := decode_eq_ok_cases h
  · obtain ⟨hop, rfl⟩ := decodeCommand_eq_ok_iff.mp hc
    exact encode_command hop
  · exact encode_of_decodeFrame hf

theorem decode_encode (i : Instr) : decode (encode i) = .ok i := by
  cases hop : i.opcodeOf with
  | none => rw [encode_command hop, decode_command, decodeCommand_eq_ok_iff.mpr ⟨hop, rfl⟩]
  | some op => rw [encode_frame hop, decode_toList, decodeFrame_eq_ok_iff.mpr ⟨op.1, op.2, hop, rfl⟩]

theorem decode_eq_ok_iff {bs : List Byte} {i : Instr} : decode bs = .ok i ↔ encode i = bs :=
  ⟨encode_of_decode, fun h => h ▸ decode_encode i⟩

/-! The obligations. -/

/-- Settles O1: what decodes is one command byte or one frame, and in each table a key heads one row only. -/
theorem decodeIsInverseOfEncode : Obligations.DecodeIsInverseOfEncode := fun _ _ => decode_eq_ok_iff

/-- Settles O3: the values of rule R64 are the opcodes that head the rows of the frame table. -/
theorem onlyListedOpcodesDecode : Obligations.OnlyListedOpcodesDecode := fun _ h0 h7 =>
  ⟨decodeFrame_listed h0 h7, decodeFrame_unlisted h0 h7⟩

/-- Settles O2: each word is the encoding of its instruction; 0x00 is the code of no command. -/
theorem writtenWordsDecode : Obligations.WrittenWordsDecode :=
  ⟨decode_eq_ok_iff.mpr rfl, decode_eq_ok_iff.mpr rfl, decode_eq_ok_iff.mpr rfl, decode_eq_ok_iff.mpr rfl,
    decode_eq_ok_iff.mpr rfl, decode_eq_ok_iff.mpr rfl, decode_eq_ok_iff.mpr rfl, rfl⟩

end Sys2Proof.Machine
end

section
/-!
The frame codec (`41_codec.md` rules R80 to R88): the checksum as the negation of the payload sum, the decode status as
a sum of bits, and the two codec operations while the block is idle.
-/

namespace Sys2Proof.Machine

/-! The payload sum (`41_codec.md` rule R80). -/

theorem payloadSum_le (o f p1 p2 : Byte) : payloadSum o f p1 p2 ≤ 1020 := by
  have := o.isLt
  have := f.isLt
  have := p1.isLt
  have := p2.isLt
  unfold payloadSum
  omega

theorem payloadSum_eq_zero_iff (o f p1 p2 : Byte) :
    payloadSum o f p1 p2 = 0 ↔ o = 0 ∧ f = 0 ∧ p1 = 0 ∧ p2 = 0 := by
  simp [payloadSum, BitVec.toNat_eq, and_assoc]

/-! The checksum (`41_codec.md` rules R81, R82). -/

theorem toNat_cksum (o f p1 p2 : Byte) :
    (cksum o f p1 p2).toNat = (0xFFFF - payloadSum o f p1 p2 + 1) % 0x10000 :=
  BitVec.toNat_ofNat _ _

/-- Only for sum 0 is there anything to truncate. -/
theorem toNat_cksum_of_pos {o f p1 p2 : Byte} (h : 1 ≤ payloadSum o f p1 p2) :
    (cksum o f p1 p2).toNat = 0x10000 - payloadSum o f p1 p2 := by
  have := payloadSum_le o f p1 p2
  rw [toNat_cksum]
  omega

theorem cksum_eq_ofNat_mod (o f p1 p2 : Byte) :
    cksum o f p1 p2 = BitVec.ofNat 16 ((0xFFFF - payloadSum o f p1 p2 + 1) % 0x10000) := by
  rw [← toNat_cksum, BitVec.ofNat_toNat, BitVec.setWidth_eq]

theorem cksum_of_sum_zero {o f p1 p2 : Byte} (h : payloadSum o f p1 p2 = 0) : cksum o f p1 p2 = 0 := by
  rw [cksum, h]
  rfl

/-- Since the subtraction never borrows, the checksum is the two's-complement negation of the sum. -/
theorem cksum_eq_neg (o f p1 p2 : Byte) : cksum o f p1 p2 = -BitVec.ofNat 16 (payloadSum o f p1 p2) := by
  have := payloadSum_le o f p1 p2
  apply BitVec.eq_of_toNat_eq
  rw [toNat_cksum, BitVec.toNat_neg, BitVec.toNat_ofNat]
  omega

theorem eq_cksum_iff (ck : BitVec 16) (o f p1 p2 : Byte) :
    ck = cksum o f p1 p2 ↔ BitVec.ofNat 16 (payloadSum o f p1 p2) + ck = 0 := by
  rw [cksum_eq_neg, eq_neg_iff_add_eq_zero, add_comm]

theorem toNat_highByte (ck : BitVec 16) : (highByte ck).toNat = ck.toNat / 256 := by
  have := ck.isLt
  rw [highByte, BitVec.extractLsb'_toNat, Nat.shiftRight_eq_div_pow]
  omega

/-- The high byte of the checksum, by the sum: 0x00, or one of the four values up to 0xFF. -/
theorem highByte_cksum_cases (o f p1 p2 : Byte) :
    (payloadSum o f p1 p2 = 0 ∧ highByte (cksum o f p1 p2) = 0) ∨
      (1 ≤ payloadSum o f p1 p2 ∧ 0xFC ≤ (highByte (cksum o f p1 p2)).toNat) := by
  obtain hzero | hpos := Nat.eq_zero_or_pos (payloadSum o f p1 p2)
  · rw [cksum_of_sum_zero hzero]
    exact .inl ⟨hzero, rfl⟩
  · have := payloadSum_le o f p1 p2
    rw [toNat_highByte, toNat_cksum_of_pos hpos]
    omega

theorem highByte_cksum_eq_zero_iff (o f p1 p2 : Byte) :
    highByte (cksum o f p1 p2) = 0 ↔ o = 0 ∧ f = 0 ∧ p1 = 0 ∧ p2 = 0 := by
  rw [← payloadSum_eq_zero_iff]
  obtain ⟨hsum, hhigh⟩ | ⟨hsum, hhigh⟩ := highByte_cksum_cases o f p1 p2
  · exact iff_of_true hhigh hsum
  · exact iff_of_false (fun h => by simp [h] at hhigh) (by omega)

theorem mem_high_bytes_iff (b : Byte) : b ∈ ([0x00, 0xFC, 0xFD, 0xFE, 0xFF] : List Byte) ↔ b = 0 ∨ 0xFC ≤ b.toNat := by
  have := b.isLt
  simp only [List.mem_cons, List.not_mem_nil, or_false, BitVec.toNat_eq, BitVec.ofNat_eq_ofNat, BitVec.toNat_ofNat]
  omega

/-- Settles O4: with the sum at most 1020 the subtraction stays above zero, and only sum 0 is truncated. -/
theorem checksumOfEverySum : Obligations.ChecksumOfEverySum := by
  intro o f p1 p2
  have hle := payloadSum_le o f p1 p2
  refine ⟨hle, by omega, toNat_cksum o f p1 p2, cksum_of_sum_zero, fun hpos => ?_⟩
  rw [toNat_cksum_of_pos hpos]
  omega

/-- Settles O5: the checksum is the negation of the sum, and is a function of it. -/
theorem checksumLaws : Obligations.ChecksumLaws := fun o f p1 p2 =>
  ⟨fun ck => eq_cksum_iff ck o f p1 p2, highByte_cksum_eq_zero_iff o f p1 p2,
    (mem_high_bytes_iff _).mpr ((highByte_cksum_cases o f p1 p2).imp And.right And.right),
    fun _ _ _ _ hsum => by rw [cksum_eq_neg, cksum_eq_neg, hsum]⟩

/-! ENC (`41_codec.md` rules R83, R85, R88). -/

theorem exec_enc_idle {s : State} (h : s.phase = .idle) :
    exec .enc s = .next { s with txbuf := mkFrame s.argOpc s.argFb s.argP1 s.argP2 } :=
  congrArg Host.Outcome.next (issue_idle encodeArgs s h)

/-- The host's write of ENC's code to CMD runs ENC. -/
theorem step_enc {s : State} (h : s.phase = .idle) (hturn : s.nextTurn = .hostWrite 0x00 0x01) :
    step s = .next { s.turnSpent with txbuf := mkFrame s.argOpc s.argFb s.argP1 s.argP2 } := by
  obtain ⟨hcommand, -⟩ := stepRunsDecodedInstruction
  rw [hcommand s 0x01 .enc hturn rfl, exec_enc_idle (by rwa [turnSpent_phase])]
  simp only [turnSpent_argOpc, turnSpent_argFb, turnSpent_argP1, turnSpent_argP2]

/-- Settles O6: the checksum bytes are the two halves of the checksum, which `highByte_append_lowByte` joins again. -/
theorem encBuildsRequestFrame : Obligations.EncBuildsRequestFrame := by
  refine ⟨fun s hidle => ⟨_, _, ?joined, exec_enc_idle hidle, step_enc hidle⟩, rfl, rfl, rfl⟩
  exact (highByte_append_lowByte _).trans (cksum_eq_ofNat_mod s.argOpc s.argFb s.argP1 s.argP2)

/-! The decode status (`41_codec.md` rule R84). -/

theorem startOk_iff (f : Buf8) : startOk f = true ↔ f.b0 = 0x7E := beq_iff_eq

theorem endOk_iff (f : Buf8) : endOk f = true ↔ f.b7 = 0xEF := beq_iff_eq

theorem lenOk_iff (n : BitVec 4) : lenOk n = true ↔ n = 8 := beq_iff_eq

theorem ckOk_iff (f : Buf8) : ckOk f = true ↔ f.b5 ++ f.b6 = cksum f.b1 f.b2 f.b3 f.b4 := beq_iff_eq

/-- Five bits side by side are the five values of the bits together. -/
theorem append_five_bits : ∀ b4 b3 b2 b1 b0 : Bool,
    (BitVec.ofBool b4 ++ BitVec.ofBool b3 ++ BitVec.ofBool b2 ++ BitVec.ofBool b1 ++ BitVec.ofBool b0 : BitVec 5) =
      (if b4 then 0b10000 else 0) ||| (if b3 then 0b01000 else 0) ||| (if b2 then 0b00100 else 0) |||
        (if b1 then 0b00010 else 0) ||| (if b0 then 0b00001 else 0) := by
  decide

/-- Each bit of the status is set by the condition it stands for. -/
theorem dstatOf_eq (f : Buf8) (n : BitVec 4) :
    dstatOf f n =
      (if f.b0 = 0x7E ∧ f.b7 = 0xEF ∧ n = 8 ∧ f.b5 ++ f.b6 = cksum f.b1 f.b2 f.b3 f.b4 then 0b10000 else 0) |||
        (if f.b5 ++ f.b6 = cksum f.b1 f.b2 f.b3 f.b4 then 0b01000 else 0) ||| (if n = 8 then 0b00100 else 0) |||
        (if f.b7 = 0xEF then 0b00010 else 0) ||| (if f.b0 = 0x7E then 0b00001 else 0) := by
  rw [dstatOf, append_five_bits]
  simp only [frameValid_iff, startOk_iff, endOk_iff, lenOk_iff, ckOk_iff]

/-- A frame the encoder builds passes every check. -/
theorem dstatOf_mkFrame (o f p1 p2 : Byte) : dstatOf (mkFrame o f p1 p2) 8 = 0b11111 := by
  rw [dstatOf_eq]
  simp [mkFrame, startMarker, endMarker, highByte_append_lowByte]

/-! DEC (`41_codec.md` rules R86, R87). -/

theorem exec_dec_idle {s : State} (h : s.phase = .idle) : exec .dec s = .next (decodeStep s) :=
  congrArg Host.Outcome.next (issue_idle decodeStep s h)

/-- Settles O7: DEC is the decode step, and the status it writes is read off bit by bit. -/
theorem decWritesFieldsAndStatus : Obligations.DecWritesFieldsAndStatus := by
  intro s hidle
  rw [exec_dec_idle hidle, decodeStep, dstatOf_eq]

/-- Settles O8: the fields stand at the offsets the encoder put them at, and every check passes. -/
theorem decodeRecoversEncodedFrame : Obligations.DecodeRecoversEncodedFrame := by
  intro s o f p1 p2 hidle hbuf hlen
  refine ⟨decodeStep s, exec_dec_idle hidle, congrArg Buf8.b1 hbuf, congrArg Buf8.b2 hbuf, congrArg Buf8.b3 hbuf,
    congrArg Buf8.b4 hbuf, ?checksum, ?status⟩
  case checksum =>
    rw [decodeStep_decCkh, decodeStep_decCkl, hbuf]
    exact highByte_append_lowByte (cksum o f p1 p2)
  case status => rw [decodeStep_dstat, hbuf, hlen, dstatOf_mkFrame]

end Sys2Proof.Machine
end

section
/-!
The UART at byte level (`42_uart.md` rules R91 to R99): TXF, FLUSH and RXF from their issue to their end, the end of
every frame read, an arriving byte and the timeout.
-/

namespace Sys2Proof.Machine

/-! Runs. -/

theorem core_run_then (M : Host.Core) {m : Nat} {s u : M.State} (h : M.run m s = .next u) (n : Nat) :
    M.run (m + n) s = M.run n u := by
  induction m generalizing s with
  | zero => rw [Nat.zero_add, Host.Outcome.next.inj h]
  | succ m ih =>
    simp only [Host.Core.run] at h
    split at h
    · rename_i v hstep
      rw [Nat.add_right_comm, core_run_succ M hstep, ih h]
    · cases h
    · cases h

/-- A run that has come to `u` goes on from there. -/
theorem run_then {m : Nat} {s u : State} (h : core.run m s = .next u) (n : Nat) :
    core.run (m + n) s = core.run n u :=
  core_run_then core h n

/-- One more step. -/
theorem run_snoc {m : Nat} {s u t : State} (h : core.run m s = .next u) (hstep : step u = .next t) :
    core.run (m + 1) s = .next t :=
  (run_then h 1).trans (run_succ hstep 0)

/-- `s` with the last turn that comes from outside taken off the schedule. -/
def State.lastTurnTaken (s : State) : State := { s with agenda := [] }

/-- The host's last turn issues a block operation while the block is idle (`10_state.md` rule R21). -/
theorem step_issue {s : State} {v : Byte} {f : State → State} (ha : s.agenda = [.hostWrite 0x00 v])
    (hp : s.phase = .idle) (hv : ∀ u, writeCommand v u = .next (issue f u)) :
    step s = .next (f s.lastTurnTaken) :=
  calc step s = writeCommand v s.lastTurnTaken := step_turn s _ [] ha
    _ = .next (issue f s.lastTurnTaken) := hv _
    _ = .next (f s.lastTurnTaken) := congrArg Host.Outcome.next (issue_idle f _ hp)

/-- An operation issued while idle leaves PHASE as it was when it ends. -/
theorem toIdle_of_idle {s : State} (hp : s.phase = .idle) (u : State) :
    toIdle u = { u with phase := s.phase, op := 0 } := by
  rw [toIdle, hp]

/-! TXF (`42_uart.md` rules R91, R92). -/

/-- The first `k` TxSteps of a TX phase left to itself, the eighth not among them. -/
theorem run_sends {s : State} (hs : s.Alone) (hp : s.phase = .tx) (hi : s.idx = 0) (k : Nat) (hk : k ≤ 7) :
    core.run k s = .next (afterSending (BitVec.ofNat 4 k) (s.txbuf.toList.take k) s) := by
  induction k with
  | zero =>
    have hnone : s = afterSending 0 [] s := by
      rw [afterSending, ← hi, List.append_nil]
    exact congrArg Host.Outcome.next hnone
  | succ k ih =>
    have hu : (afterSending (BitVec.ofNat 4 k) (s.txbuf.toList.take k) s).Alone :=
      ⟨hs.byteLevel, hs.agenda, hs.later⟩
    have hidx : (BitVec.ofNat 4 k).toNat = k := by
      rw [BitVec.toNat_ofNat]
      omega
    have hbyte : s.txbuf.toList.take (k + 1) = s.txbuf.toList.take k ++ [s.txbuf.get k] := by
      rw [List.take_succ_eq_append_getElem (by rw [toList_length]; omega), ← toList_getD _ _ (by omega),
        List.getD_eq_getElem]
    have hsent : txStep (afterSending (BitVec.ofNat 4 k) (s.txbuf.toList.take k) s) =
        afterSending (BitVec.ofNat 4 k + 1) [s.txbuf.get (BitVec.ofNat 4 k).toNat]
          (afterSending (BitVec.ofNat 4 k) (s.txbuf.toList.take k) s) :=
      txStep_more hu.byteLevel (hidx.trans_lt (by omega))
    rw [run_snoc (ih (by omega)) (step_tx hu hp), hsent, afterSending_twice, hidx, hbyte, BitVec.ofNat_add]
    rfl

/-- TXF's eighth TxStep: the last byte of TXBUF is sent and the operation ends. -/
theorem step_txf_last {s : State} (hs : s.Alone) (hp : s.phase = .tx) (ho : s.op ≠ opXchg) (hi : s.idx = 7) :
    step s = .next (toIdle (afterSending 8 [s.txbuf.b7] s)) := by
  rw [step_tx hs hp]
  rcases txStep_cases s with ⟨-, h⟩ | ⟨h, -⟩
  · rw [h, wireTx_byteLevel hs.byteLevel, hi]
    exact congrArg Host.Outcome.next (leaveTx_txf _ ho)
  · simp [hi] at h

/-- Settles O10: after the issue seven TxSteps send the bytes before the last, and the eighth ends the operation. -/
theorem txfSendsBufferInOrder : Obligations.TxfSendsBufferInOrder := by
  intro s hp hl ha hlater
  have hstep : step s = .next (beginTxf s.lastTurnTaken) := step_issue ha hp fun _ => rfl
  have hsends := run_sends (s := beginTxf s.lastTurnTaken) ⟨hl, rfl, hlater⟩ rfl rfl
  refine ⟨?whole, fun k hk => ⟨_, (run_succ hstep k).trans (hsends k (by omega)), rfl, rfl⟩⟩
  have hop : opTxf ≠ opXchg := by decide
  rw [run_succ hstep 8, run_snoc (hsends 7 le_rfl) (step_txf_last ⟨hl, rfl, hlater⟩ rfl hop rfl), afterSending_twice]
  exact congrArg Host.Outcome.next (toIdle_of_idle hp _)

/-! FLUSH (`42_uart.md` rules R98, R101). -/

/-- A transmitter that is still busy keeps FLUSH waiting. -/
theorem seqStep_flush_waits {s : State} (hp : s.phase = .flushWait) (hd : s.txDrained = false) :
    seqStep s = .next s :=
  seqStep_disabled s (by simp [State.seqEnabled, hp, hd])

/-- At line level the transmitter is idle with the holding register empty and no character in progress. -/
theorem txDrained_lineLevel {s : State} (hl : s.level = .lineLevel) :
    s.txDrained = true ↔ s.line.txHold = none ∧ s.line.txBits = 0 := by
  simp [State.txDrained, hl]

/-- Settles O11: the transmitter is always idle at byte level, and at line level as `txDrained_lineLevel` says. -/
theorem flushWaitsForTransmitter : Obligations.FlushWaitsForTransmitter := by
  refine ⟨fun s hp hl ha hlater => ?byte, fun s hp hl => ⟨fun hidle => ?ends, fun hbusy => ?waits⟩⟩
  case byte =>
    have hissue : step s = .next (beginFlush s.lastTurnTaken) := step_issue ha hp fun _ => rfl
    have hdrained : (beginFlush s.lastTurnTaken).txDrained = true := by
      simp [State.txDrained, beginFlush, State.lastTurnTaken, hl]
    have hend : step (beginFlush s.lastTurnTaken) = .next (toIdle (beginFlush s.lastTurnTaken)) :=
      (step_alone (s := beginFlush s.lastTurnTaken) ⟨hl, rfl, hlater⟩ hdrained).trans (seqStep_flush _ rfl hdrained)
    refine ⟨⟨_, run_succ hissue 0, rfl⟩, ?_⟩
    rw [run_succ hissue 1, run_succ hend 0]
    exact congrArg Host.Outcome.next (toIdle_of_idle hp _)
  case ends => exact seqStep_flush s hp ((txDrained_lineLevel hl).mpr hidle)
  case waits => exact seqStep_flush_waits hp (Bool.eq_false_iff.mpr (mt (txDrained_lineLevel hl).mp hbusy))

/-! A frame read (`42_uart.md` rules R95 to R97; `20_memory.md` rule R43). -/

/-- `s` with the bytes `f` stored in its frame read and `q` still queued. -/
def afterReading (f q : List Byte) (s : State) : State :=
  { s with rxbuf := fillBuffer f, rxlen := BitVec.ofNat 4 f.length, rxq := q }

theorem stored_afterReading (f q : List Byte) (s : State) : Stored f (afterReading f q s) := ⟨rfl, rfl⟩

theorem storeByte_afterReading {f : List Byte} (hf : f.length < 8) (b : Byte) (q : List Byte) (s : State) :
    storeByte b q (afterReading f (b :: q) s) = afterReading (f ++ [b]) q s := by
  obtain ⟨hbuf, hlen⟩ := (stored_afterReading f (b :: q) s).storeByte hf b q
  calc storeByte b q (afterReading f (b :: q) s)
      = { s with
          rxbuf := (storeByte b q (afterReading f (b :: q) s)).rxbuf
          rxlen := (storeByte b q (afterReading f (b :: q) s)).rxlen, rxq := q } := rfl
    _ = afterReading (f ++ [b]) q s := by rw [hbuf, hlen, afterReading]

/-- The first bytes of a partial frame are a partial frame. -/
theorem partialFrame_of_append {f g : List Byte} (h : partialFrame (f ++ g)) : partialFrame f := by
  obtain ⟨hlen, hbytes⟩ := h
  rw [List.length_append] at hlen
  exact ⟨by omega, fun b hb => hbytes b (List.mem_append_left g hb)⟩

/-- A frame that a byte ended is a partial frame and its last byte. -/
theorem endedFrame_split {f : List Byte} (h : endedFrame f) : ∃ g b, f = g ++ [b] ∧ partialFrame g := by
  obtain ⟨g, b, rfl⟩ := (List.eq_nil_or_concat' f).resolve_left (endedFrame_ne_nil h)
  obtain ⟨hlt, -⟩ := endedFrame_last h
  obtain ⟨-, hinner, -⟩ := h
  rw [List.dropLast_concat] at hinner
  exact ⟨g, b, rfl, hlt, hinner⟩

/-- A byte that leaves the frame partial does not end its read. -/
theorem readEnds_partial {f q : List Byte} {b : Byte} (h : partialFrame (f ++ [b])) (s : State) :
    (afterReading (f ++ [b]) q s).readEnds b = false := by
  obtain ⟨hlen, hbytes⟩ := h
  rw [Bool.eq_false_iff, Ne, (stored_afterReading _ q s).readEnds_iff hlen.le]
  exact fun hend => hend.elim (hbytes b (by simp)) hlen.ne

/-- The sequencer has a step in a frame read with a byte queued. -/
theorem seqEnabled_reading {s : State} (hp : s.phase = .rx ∨ s.phase = .drainRx) (hq : s.rxq ≠ []) :
    s.seqEnabled = true := by
  rcases hp with hp | hp <;> simp [State.seqEnabled, hp, hq]

/-- RxStep of a frame read left to itself, when the byte does not end it. -/
theorem step_store {s : State} {b : Byte} {q : List Byte} (hs : s.Alone) (hp : s.phase = .rx ∨ s.phase = .drainRx)
    (hq : s.rxq = b :: q) (he : (storeByte b q s).readEnds b = false) : step s = .next (storeByte b q s) :=
  (step_alone hs (seqEnabled_reading hp (by simp [hq]))).trans (seqStep_store hp hq he)

/-- RxStep of a frame read left to itself, when the byte ends it. -/
theorem step_storeLast {s : State} {b : Byte} {q : List Byte} (hs : s.Alone) (hp : s.phase = .rx ∨ s.phase = .drainRx)
    (hq : s.rxq = b :: q) (he : (storeByte b q s).readEnds b = true) : step s = .next (readEnd (storeByte b q s)) :=
  (step_alone hs (seqEnabled_reading hp (by simp [hq]))).trans (seqStep_storeLast hp hq he)

/-- A frame read left to itself stores queued bytes, one a step, while they leave the frame partial. -/
theorem run_reads {s : State} (hs : s.Alone) (hp : s.phase = .rx ∨ s.phase = .drainRx) (f g q : List Byte)
    (hg : partialFrame (f ++ g)) :
    core.run g.length (afterReading f (g ++ q) s) = .next (afterReading (f ++ g) q s) := by
  induction g generalizing f with
  | nil => rw [List.append_nil]; rfl
  | cons b g ih =>
    have hcons : f ++ b :: g = (f ++ [b]) ++ g := by simp
    rw [hcons] at hg ⊢
    have hstored := partialFrame_of_append hg
    have hstore := storeByte_afterReading (partialFrame_of_append hstored).1 b (g ++ q) s
    have hstep : step (afterReading f (b :: (g ++ q)) s) = .next (afterReading (f ++ [b]) (g ++ q) s) :=
      hstore ▸ step_store ⟨hs.byteLevel, hs.agenda, hs.later⟩ hp rfl (hstore ▸ readEnds_partial hstored s)
    exact (run_succ hstep _).trans (ih _ hg)

/-- In a frame read with RXQ empty the sequencer waits. -/
theorem waiting_iff (s : State) : s.waiting = true ↔ (s.phase = .rx ∨ s.phase = .drainRx) ∧ s.rxq = [] := by
  simp [State.waiting]

/-- A frame read left to itself with RXQ empty ends by `Timeout`. -/
theorem step_timeout {s : State} (hs : s.Alone) (hp : s.phase = .rx ∨ s.phase = .drainRx) (hq : s.rxq = []) :
    step s = .next (readEnd { s with tmo := true }) := by
  have hseq : s.seqEnabled = false := by
    rcases hp with hp | hp <;> simp [State.seqEnabled, hp, hq]
  rw [step_own s hs.agenda hs.later, ownTurn_timeout s hseq hs.byteLevel]
  exact (timerTurn_enabled s hs.byteLevel ((waiting_iff s).mpr ⟨hp, hq⟩)).trans (frameReadEnds_eq _ hp)

/-- RXF's read ends without decoding what it stored. -/
theorem readEnd_rxf {s : State} (hp : s.phase = .rx) (ho : s.op ≠ opXchg) : readEnd s = toIdle s :=
  endFrameRead_rxf _ _ s hp ho

/-- RXF from its issue on: the first queued bytes are stored while they leave the frame partial. -/
theorem run_rxf {s : State} (hp : s.phase = .idle) (hl : s.level = .byteLevel) (ha : s.agenda = [.hostWrite 0x00 0x04])
    (hlater : s.later = .quiet) {g q : List Byte} (hq : s.rxq = g ++ q) (hg : partialFrame g) :
    core.run (g.length + 1) s = .next (afterReading g q (beginRxf s.lastTurnTaken)) := by
  have hissue : step s = .next (beginRxf s.lastTurnTaken) := step_issue ha hp fun _ => rfl
  have hbegun : beginRxf s.lastTurnTaken = afterReading [] (g ++ q) (beginRxf s.lastTurnTaken) := by
    rw [← hq]
    rfl
  rw [run_succ hissue, hbegun]
  exact run_reads (s := beginRxf s.lastTurnTaken) ⟨hl, rfl, hlater⟩ (.inl rfl) [] g q hg

/-- What RXF leaves when its read ends, with the bytes `f` read and `q` still queued. -/
theorem readEnd_afterReading_rxf {s : State} (hp : s.phase = .idle) (f q : List Byte) (m : Bool) :
    readEnd { afterReading f q (beginRxf s.lastTurnTaken) with tmo := m } =
      { s with
        op := 0, rxbuf := fillBuffer f, rxlen := BitVec.ofNat 4 f.length, tmo := m, rxq := q, agenda := [] } := by
  have hop : opRxf ≠ opXchg := by decide
  exact (readEnd_rxf (s := { afterReading f q (beginRxf s.lastTurnTaken) with tmo := m }) rfl hop).trans
    (toIdle_of_idle hp _)

/-- Settles O12: RxSteps store the bytes before the last, and the last ends the read. -/
theorem rxfReadsOneFrame : Obligations.RxfReadsOneFrame := by
  intro s f rest hp hl ha hlater hq hf
  obtain ⟨g, b, rfl, hg⟩ := endedFrame_split hf
  obtain ⟨hlt, hlast⟩ := endedFrame_last hf
  have hread := run_rxf hp hl ha hlater (q := b :: rest) (by simpa using hq) hg
  have hstore := storeByte_afterReading hlt b rest (beginRxf s.lastTurnTaken)
  have hends : (afterReading (g ++ [b]) rest (beginRxf s.lastTurnTaken)).readEnds b = true := by
    rw [(stored_afterReading _ rest _).readEnds_iff (by simpa using hlt)]
    simpa using hlast
  have hstep : step (afterReading g (b :: rest) (beginRxf s.lastTurnTaken)) =
      .next (readEnd (afterReading (g ++ [b]) rest (beginRxf s.lastTurnTaken))) :=
    hstore ▸ step_storeLast ⟨hl, rfl, hlater⟩ (.inl rfl) rfl (hstore ▸ hends)
  have hcount : 1 + (g ++ [b]).length = g.length + 1 + 1 := by
    rw [List.length_append, List.length_singleton]
    omega
  rw [hcount, run_snoc hread hstep]
  exact congrArg Host.Outcome.next (readEnd_afterReading_rxf hp (g ++ [b]) rest false)

/-- Settles O13: RxSteps store what is queued, and then `Timeout` ends the read. -/
theorem rxfEndsByTimeout : Obligations.RxfEndsByTimeout := by
  intro s hp hl ha hlater hpartial
  have hread := run_rxf hp hl ha hlater (q := []) (List.append_nil _).symm hpartial
  have hstep := step_timeout (s := afterReading s.rxq [] (beginRxf s.lastTurnTaken)) ⟨hl, rfl, hlater⟩ (.inl rfl) rfl
  have hcount : 2 + s.rxq.length = s.rxq.length + 1 + 1 := by omega
  rw [hcount, run_snoc hread hstep]
  exact congrArg Host.Outcome.next (readEnd_afterReading_rxf hp s.rxq [] true)

/-! Every frame read ends (`42_uart.md` rule R99). -/

/-- Where a frame read ends: a drain turn's at the next DrainTest, any other in IDLE. -/
def Phase.afterRead (p : Phase) : Phase := if p = .rx then .idle else .drainTest

theorem readEnd_phase {s : State} (hp : s.phase = .rx ∨ s.phase = .drainRx) :
    (readEnd s).phase = s.phase.afterRead := by
  rcases hp with hp | hp
  · by_cases ho : s.op = opXchg
    · rw [readEnd, endFrameRead_reply _ _ s hp ho, hp]
      rfl
    · rw [readEnd_rxf hp ho, hp]
      rfl
  · rw [readEnd_drainRx hp, hp]
    rfl

/-- A step of a frame read left to itself ends the read, or stores a byte that is not the eighth. -/
theorem step_reading {s : State} (hs : s.Alone) (hp : s.phase = .rx ∨ s.phase = .drainRx) :
    ∃ t, step s = .next t ∧
      (t.phase = s.phase.afterRead ∨ t.Alone ∧ t.phase = s.phase ∧ t.rxlen = s.rxlen + 1 ∧ t.rxlen ≠ 8) := by
  cases hq : s.rxq with
  | nil => exact ⟨_, step_timeout hs hp hq, .inl (readEnd_phase hp)⟩
  | cons b q =>
    cases he : (storeByte b q s).readEnds b with
    | true => exact ⟨_, step_storeLast hs hp hq he, .inl (readEnd_phase hp)⟩
    | false =>
      have hlen : s.rxlen + 1 ≠ 8 := by
        simp only [State.readEnds, Bool.or_eq_false_iff, beq_eq_false_iff_ne] at he
        exact he.2
      exact ⟨_, step_store hs hp hq he, .inr ⟨⟨hs.byteLevel, hs.agenda, hs.later⟩, rfl, rfl, hlen⟩⟩

/-- A frame read that can store `n` more bytes before the eighth is over in `n + 2` steps. -/
theorem frameRead_ends (n : Nat) {s : State} (hs : s.Alone) (hp : s.phase = .rx ∨ s.phase = .drainRx)
    (hn : s.rxlen.toNat + n = 7) :
    ∃ k t, k ≤ n + 2 ∧ core.run k s = .next t ∧ t.phase = s.phase.afterRead := by
  induction n generalizing s with
  | zero =>
    obtain ⟨t, hstep, hend | ⟨-, -, hlen, hne⟩⟩ := step_reading hs hp
    · exact ⟨1, t, by omega, run_succ hstep 0, hend⟩
    · bv_omega
  | succ n ih =>
    obtain ⟨t, hstep, hend | ⟨ht, hpt, hlen, -⟩⟩ := step_reading hs hp
    · exact ⟨1, t, by omega, run_succ hstep 0, hend⟩
    · obtain ⟨k, u, hk, hrun, hu⟩ := ih ht (hpt ▸ hp) (by bv_omega)
      exact ⟨k + 1, u, by omega, (run_succ hstep k).trans hrun, hpt ▸ hu⟩

/-- Settles O52: the invariant leaves at most seven bytes to store before the eighth. -/
theorem frameReadEndsInNineSteps : Obligations.FrameReadEndsInNineSteps := by
  intro s hinv hl ha hlater hp
  obtain ⟨hlen, -⟩ := hinv.readBufferClean hp
  obtain ⟨k, t, hk, hrun, ht⟩ := frameRead_ends (7 - s.rxlen.toNat) ⟨hl, ha, hlater⟩ hp (by omega)
  exact ⟨k, t, by omega, hrun, ht⟩

/-! The link and the timer (`42_uart.md` rules R93, R96). -/

/-- Settles O40: the turn is `Arrive`, with room in RXQ or with RXQ full. -/
theorem arriveQueuesOrDrops : Obligations.ArriveQueuesOrDrops := by
  intro s b hl hturn
  have hstep : step s = .next (arrive b s.turnSpent) := by
    rw [step_takes, hturn]
    exact linkTurn_byteLevel b 0 _ (by simpa using hl)
  refine ⟨fun hroom => ?queued, fun hfull => ?dropped⟩
  case queued => rw [hstep, arrive_queued b _ (by simpa using hroom), turnSpent_rxq]
  case dropped =>
    rw [hstep, arrive_dropped b _ (by simpa using hfull), turnSpent_err]
    rfl

/-- Settles O41: the timer's turn is enabled exactly while the sequencer waits. -/
theorem timeoutOnlyWhileWaiting : Obligations.TimeoutOnlyWhileWaiting := by
  intro s hl hturn
  have hstep : step s = timerTurn s.turnSpent := by
    rw [step_takes, hturn]
    rfl
  have hwait := waiting_iff s.turnSpent
  rw [turnSpent_phase, turnSpent_rxq] at hwait
  refine ⟨fun hw => ?ends, fun hw => ?passes⟩
  case ends => exact hstep.trans (timerTurn_enabled _ (by simpa using hl) (hwait.mpr hw))
  case passes => exact hstep.trans (timerTurn_passes _ fun h => hw (hwait.mp h.2))

end Sys2Proof.Machine
end

section
/-!
The UART at line level (`42_uart.md` rules R100 to R103): the character on the TX pin and the one read from the RX
line, the stop bit, the holding register and the timeout counter.
-/

namespace Sys2Proof.Machine

/-! The character (`42_uart.md` rule R100). -/

/-- A start bit, the data bits with the least significant first, and a stop bit. -/
theorem characterBits_getLsbD (b : Byte) (i : Nat) (h : i < 10) :
    (characterBits b).getLsbD i = if i = 0 then false else if i = 9 then true else b.getLsbD (i - 1) := by
  have hcases : i = 0 ∨ i = 9 ∨ (1 ≤ i ∧ i < 9) := by omega
  rw [characterBits, BitVec.getLsbD_append, BitVec.getLsbD_append]
  rcases hcases with rfl | rfl | ⟨hpos, hlt⟩
  · rfl
  · rfl
  · rw [if_neg (by omega), if_pos (by omega), if_neg (by omega), if_neg (by omega)]

/-! The transmitter (`42_uart.md` rule R101). -/

/-- Bit `i` of the character of `b` has been on the pin for `k` clocks and the clock before them, no other byte held. -/
def sendingBit (b : Byte) (i k : Nat) (l : Line) : Line :=
  { l with txHold := none, txShift := characterBits b >>> i, txBits := 10 - i, txDiv := k }

theorem sendingBit_busy (b : Byte) (i k : Nat) (l : Line) (h : i < 10) : (sendingBit b i k l).txBits ≠ 0 :=
  Nat.sub_ne_zero_of_lt h

theorem sendingBit_txPin (b : Byte) (i k : Nat) (l : Line) (h : i < 10) :
    (sendingBit b i k l).txPin = (characterBits b).getLsbD i := by
  rw [Line.txPin, if_neg (sendingBit_busy b i k l h)]
  exact BitVec.getLsbD_ushiftRight ..

/-- The idle transmitter starts the held byte at once. -/
theorem txTick_starts (bc : Nat) {b : Byte} {l : Line} (hidle : l.txBits = 0) (hheld : l.txHold = some b) :
    txTick bc l = sendingBit b 0 0 l := by
  rw [txTick, if_pos hidle, nextCharacter_some l b hheld]
  rfl

/-- Before a bit time is over the bit stays on the pin. -/
theorem txTick_holds {bc i k : Nat} (b : Byte) (l : Line) (hi : i < 10) (hk : k + 1 < bc) :
    txTick bc (sendingBit b i k l) = sendingBit b i (k + 1) l := by
  have hdiv : (sendingBit b i k l).txDiv + 1 < bc := hk
  rw [txTick, if_neg (sendingBit_busy b i k l hi), if_pos hdiv]
  rfl

/-- After a bit time the next bit is on the pin. -/
theorem txTick_shifts {bc i k : Nat} (b : Byte) (l : Line) (hi : i + 1 < 10) (hk : k + 1 = bc) :
    txTick bc (sendingBit b i k l) = sendingBit b (i + 1) 0 l := by
  have hdiv : ¬(sendingBit b i k l).txDiv + 1 < bc := hk.not_lt
  have hmore : (sendingBit b i k l).txBits ≠ 1 := by
    change 10 - i ≠ 1
    omega
  rw [txTick, if_neg (sendingBit_busy b i k l (by omega)), if_neg hdiv, if_neg hmore]
  simp [sendingBit, BitVec.shiftRight_add, Nat.sub_sub]

/-- After the stop bit, with no other byte held, the transmitter is idle. -/
theorem txTick_ends {bc k : Nat} (b : Byte) (l : Line) (hk : k + 1 = bc) :
    txTick bc (sendingBit b 9 k l) = { sendingBit b 9 k l with txBits := 0, txDiv := 0 } := by
  have hdiv : ¬(sendingBit b 9 k l).txDiv + 1 < bc := hk.not_lt
  have hlast : (sendingBit b 9 k l).txBits = 1 := rfl
  rw [txTick, if_neg (sendingBit_busy b 9 k l (by decide)), if_neg hdiv, if_pos hlast]
  exact nextCharacter_none _ rfl

/-- Once a bit is on the pin it stays there for `bc` clocks. -/
theorem txTicks_holds {bc i m k : Nat} {b : Byte} {l : Line} (hi : i < 10)
    (h : txTicks bc m l = sendingBit b i 0 l) (hk : k < bc) : txTicks bc (m + k) l = sendingBit b i k l := by
  induction k with
  | zero => exact h
  | succ k ih => rw [← Nat.add_assoc, txTicks, ih (by omega), txTick_holds b l hi hk]

/-- Bit `i` of the character comes to the pin `i` bit times after the clock that starts it. -/
theorem txTicks_reachesBit {bc : Nat} {b : Byte} {l : Line} (hbc : 1 ≤ bc) (hidle : l.txBits = 0)
    (hheld : l.txHold = some b) (i : Nat) (hi : i < 10) : txTicks bc (i * bc + 1) l = sendingBit b i 0 l := by
  induction i with
  | zero => simpa [txTicks] using txTick_starts bc hidle hheld
  | succ i ih =>
    have hlast : (i + 1) * bc = i * bc + 1 + (bc - 1) := by
      rw [Nat.succ_mul]
      omega
    rw [txTicks, hlast, txTicks_holds (by omega) (ih (by omega)) (by omega), txTick_shifts b l hi (by omega)]

/-- After the clock that starts it, each bit of the character stands `bc` clocks on the pin. -/
theorem txTicks_sendingBit {bc : Nat} {b : Byte} {l : Line} (hbc : 1 ≤ bc) (hidle : l.txBits = 0)
    (hheld : l.txHold = some b) (i k : Nat) (hi : i < 10) (hk : k < bc) :
    txTicks bc (i * bc + k + 1) l = sendingBit b i k l := by
  rw [Nat.add_right_comm]
  exact txTicks_holds hi (txTicks_reachesBit hbc hidle hheld i hi) hk

/-- Settles O54: ten bits of `bc` clocks each, and the clock after them finds no byte held. -/
theorem transmitterSendsCharacter : Obligations.TransmitterSendsCharacter := by
  intro bc b l hbc hidle hheld
  have hsending := txTicks_sendingBit hbc hidle hheld
  have hend : txTicks bc (10 * bc + 1) l = { sendingBit b 9 (bc - 1) l with txBits := 0, txDiv := 0 } := by
    have hcount : 10 * bc = 9 * bc + (bc - 1) + 1 := by omega
    rw [txTicks, hcount, hsending 9 (bc - 1) (by omega) (by omega)]
    exact txTick_ends b l (by omega)
  refine ⟨fun i k hi hk => ?_, ?_, ?_, ?_⟩
  · rw [hsending i k hi hk, sendingBit_txPin b i k l hi, characterBits_getLsbD b i hi]
  all_goals rw [hend] <;> rfl

/-! The receiver (`42_uart.md` rule R102). -/

/-- A clock without a report. -/
theorem rxTicks_cons_nothing {bc : Nat} {rx : Bool} {more : List Bool} {l u : Line}
    (h : rxTick bc rx l = (u, .nothing)) : rxTicks bc (rx :: more) l = rxTicks bc more u := by
  simp [rxTicks, h]

/-- A clock that reports a byte. -/
theorem rxTicks_cons_byte {bc : Nat} {rx : Bool} {more : List Bool} {l u : Line} {b : Byte}
    (h : rxTick bc rx l = (u, .byte b)) :
    rxTicks bc (rx :: more) l = ((rxTicks bc more u).1, .byte b :: (rxTicks bc more u).2) := by
  simp [rxTicks, h]

/-- Clocks without a report lead to where the receiver goes on from. -/
theorem rxTicks_append {bc : Nat} {levels more : List Bool} {l u : Line} (h : rxTicks bc levels l = (u, [])) :
    rxTicks bc (levels ++ more) l = rxTicks bc more u := by
  induction levels generalizing l with
  | nil =>
    cases h
    rfl
  | cons rx levels ih =>
    cases htick : rxTick bc rx l with
    | mk v r =>
      cases r with
      | nothing =>
        rw [rxTicks_cons_nothing htick] at h
        exact (rxTicks_cons_nothing htick).trans (ih h)
      | byte b => simp [rxTicks, htick] at h
      | framing => simp [rxTicks, htick] at h

/-- The receiver `l` in the state `fsm`, `n` data bits sampled into `w`, `c` clocks after the last sample point, and
the line at `p` one clock ago. -/
def receiving (fsm : RxFsm) (w : Byte) (n c : Nat) (p : Bool) (l : Line) : Line :=
  { l with rxFsm := fsm, rxShift := w, rxBits := n, rxCount := c, rxPrev := p }

/-- How many clocks the receiver counts between two sample points, from state to state. -/
def sampleClocks (bc : Nat) : RxFsm → Nat
  | .start => bc / 2
  | .data | .stop => bc
  | .hunting | .recover => 0

/-- Before the sample point the receiver counts. -/
theorem rxTick_counts {bc c : Nat} {fsm : RxFsm} (h : c + 1 < sampleClocks bc fsm) (w : Byte) (n : Nat) (p rx : Bool)
    (l : Line) : rxTick bc rx (receiving fsm w n c p l) = (receiving fsm w n (c + 1) rx l, .nothing) := by
  cases fsm with
  | start | data | stop => exact if_pos h
  | hunting | recover => exact absurd h (Nat.not_lt_zero _)

/-- `k` clocks at one level, none of them a sample point. -/
theorem rxTicks_counts {bc k c : Nat} {fsm : RxFsm} (h : c + k < sampleClocks bc fsm) (w : Byte) (n : Nat) (p rx : Bool)
    (l : Line) :
    rxTicks bc (List.replicate k rx) (receiving fsm w n c p l) =
      (receiving fsm w n (c + k) (if k = 0 then p else rx) l, []) := by
  induction k generalizing c p with
  | zero => rfl
  | succ k ih =>
    rw [List.replicate_succ, rxTicks_cons_nothing (rxTick_counts (by omega) w n p rx l), ih (by omega),
      Nat.add_right_comm c 1 k, ite_self]
    rfl

/-- Hunting, a falling edge is the start of a character. -/
theorem rxTick_edge (bc : Nat) {l : Line} (h : l.rxFsm = .hunting) (hp : l.rxPrev = true) :
    rxTick bc false l = (receiving .start l.rxShift l.rxBits 0 false l, .nothing) := by
  simp [rxTick, receiving, h, hp]

/-- Half a bit time later the start bit is confirmed. -/
theorem rxTick_confirms {bc c : Nat} (h : bc / 2 ≤ c + 1) (w : Byte) (n : Nat) (p : Bool) (l : Line) :
    rxTick bc false (receiving .start w n c p l) = (receiving .data w 0 0 false l, .nothing) := by
  simp [rxTick, receiving, Nat.not_lt.mpr h]

/-- The receiver's state with `n` data bits sampled. -/
def afterDataBits (n : Nat) : RxFsm := if n < 8 then .data else .stop

/-- A data bit is sampled. -/
theorem rxTick_samples {bc c : Nat} (h : bc ≤ c + 1) (w : Byte) (n : Nat) (p rx : Bool) (l : Line) :
    rxTick bc rx (receiving .data w n c p l) =
      (receiving (afterDataBits (n + 1)) (shiftIn rx w) (n + 1) 0 rx l, .nothing) := by
  simp [rxTick, receiving, Nat.not_lt.mpr h]
  rfl

/-- A good stop bit reports the character. -/
theorem rxTick_goodStop {bc : Nat} {l : Line} (h : l.rxFsm = .stop) (hc : bc ≤ l.rxCount + 1) :
    rxTick bc true l = ({ l with rxFsm := .hunting, rxCount := 0, rxPrev := true }, .byte l.rxShift) := by
  simp [rxTick, h, Nat.not_lt.mpr hc]

/-- A bad stop bit drops the character. -/
theorem rxTick_badStop {bc : Nat} {l : Line} (h : l.rxFsm = .stop) (hc : bc ≤ l.rxCount + 1) :
    rxTick bc false l = ({ l with rxFsm := .recover, rxCount := 0, rxPrev := false }, .framing) := by
  simp [rxTick, h, Nat.not_lt.mpr hc]

/-- Hunting, a line that stays high changes nothing. -/
theorem rxTicks_high (bc k : Nat) {l : Line} (h : l.rxFsm = .hunting) (hp : l.rxPrev = true) :
    rxTicks bc (List.replicate k true) l = (l, []) := by
  have htick : rxTick bc true l = (l, .nothing) := by
    cases l
    cases h
    cases hp
    rfl
  induction k with
  | zero => rfl
  | succ k ih => rw [List.replicate_succ, rxTicks_cons_nothing htick, ih]

/-! A character on the RX line, bit by bit (`42_uart.md` rules R100, R102). -/

/-- Clocks from the sample point of a bit to the end of its bit time, the next bit's level not yet seen. -/
def clocksLeft (bc : Nat) : Nat := bc - 1 - bc / 2

/-- Counting from one sample point, the next is half a bit time into the next bit. -/
theorem clocksLeft_half {bc : Nat} (h : 2 ≤ bc) : clocksLeft bc + bc / 2 + 1 = bc := by
  unfold clocksLeft
  omega

/-- A bit time: half of it, the sample point, and what is left. -/
theorem replicate_bit {bc : Nat} (h : 2 ≤ bc) (rx : Bool) :
    List.replicate bc rx = List.replicate (bc / 2) rx ++ rx :: List.replicate (clocksLeft bc) rx := by
  have hhalf := clocksLeft_half h
  rw [← List.replicate_succ, ← List.replicate_add]
  congr 1
  omega

/-- The start bit leads from hunting to the data bits. -/
theorem rxTicks_startBit {bc : Nat} {l : Line} (hbc : 2 ≤ bc) (h : l.rxFsm = .hunting) (hp : l.rxPrev = true) :
    rxTicks bc (List.replicate bc false) l = (receiving .data l.rxShift 0 (clocksLeft bc) false l, []) := by
  have hhalf : bc / 2 = bc / 2 - 1 + 1 := by omega
  have hwait : 0 + (bc / 2 - 1) < sampleClocks bc .start := by
    change 0 + (bc / 2 - 1) < bc / 2
    omega
  have hleft : 0 + clocksLeft bc < sampleClocks bc .data := by
    have hsample := clocksLeft_half hbc
    change 0 + clocksLeft bc < bc
    omega
  rw [replicate_bit hbc, hhalf, List.replicate_succ, List.cons_append, rxTicks_cons_nothing (rxTick_edge bc h hp),
    rxTicks_append (rxTicks_counts hwait _ _ _ _ l), rxTicks_cons_nothing (rxTick_confirms (by omega) _ _ _ l),
    rxTicks_counts hleft, ite_self, Nat.zero_add]

/-- A data bit is shifted in. -/
theorem rxTicks_dataBit {bc : Nat} (hbc : 2 ≤ bc) (w : Byte) (n : Nat) (p rx : Bool) (l : Line) :
    rxTicks bc (List.replicate bc rx) (receiving .data w n (clocksLeft bc) p l) =
      (receiving (afterDataBits (n + 1)) (shiftIn rx w) (n + 1) (clocksLeft bc) rx l, []) := by
  have hsample := clocksLeft_half hbc
  have hwait : clocksLeft bc + bc / 2 < sampleClocks bc .data := Nat.lt_of_succ_le hsample.le
  have hleft : 0 + clocksLeft bc < sampleClocks bc (afterDataBits (n + 1)) := by
    have hclocks : sampleClocks bc (afterDataBits (n + 1)) = bc := by
      unfold afterDataBits
      split <;> rfl
    omega
  rw [replicate_bit hbc, rxTicks_append (rxTicks_counts hwait _ _ _ _ l),
    rxTicks_cons_nothing (rxTick_samples hsample.ge _ _ _ _ l), rxTicks_counts hleft, ite_self, Nat.zero_add]

/-- The stop bit reports the character, and the receiver hunts again. -/
theorem rxTicks_stopBit {bc : Nat} (hbc : 2 ≤ bc) (w : Byte) (n : Nat) (p : Bool) (l : Line) :
    rxTicks bc (List.replicate bc true) (receiving .stop w n (clocksLeft bc) p l) =
      (receiving .hunting w n 0 true l, [.byte w]) := by
  have hsample := clocksLeft_half hbc
  have hwait : clocksLeft bc + bc / 2 < sampleClocks bc .stop := Nat.lt_of_succ_le hsample.le
  have hreport (c : Nat) (p : Bool) (hc : bc ≤ c + 1) :
      rxTick bc true (receiving .stop w n c p l) = (receiving .hunting w n 0 true l, .byte w) :=
    rxTick_goodStop rfl hc
  rw [replicate_bit hbc, rxTicks_append (rxTicks_counts hwait _ _ _ _ l),
    rxTicks_cons_byte (hreport _ _ hsample.ge), rxTicks_high bc _ rfl rfl]

/-- The receive shift register after the first `n` data bits of `b`. -/
def shiftedIn (b w : Byte) : Nat → Byte
  | 0 => w
  | n + 1 => shiftIn (b.getLsbD n) (shiftedIn b w n)

/-- A sampled bit enters at the top and the others move down. -/
theorem shiftIn_getLsbD (rx : Bool) (w : Byte) (i : Nat) (h : i < 8) :
    (shiftIn rx w).getLsbD i = if i = 7 then rx else w.getLsbD (i + 1) := by
  rw [shiftIn, BitVec.getLsbD_extractLsb', BitVec.getLsbD_append]
  by_cases htop : i = 7
  · simp [htop]
  · rw [if_pos (by omega), if_neg htop, Nat.add_comm 1 i]
    simp [h]

theorem shiftedIn_getLsbD (b w : Byte) (n i : Nat) (hn : n ≤ 8) (hi : i < n) :
    (shiftedIn b w n).getLsbD (8 - n + i) = b.getLsbD i := by
  induction n with
  | zero => exact absurd hi (Nat.not_lt_zero i)
  | succ n ih =>
    rw [shiftedIn, shiftIn_getLsbD _ _ _ (by omega)]
    by_cases hlast : i = n
    · rw [if_pos (by omega), hlast]
    · have hdown : 8 - (n + 1) + i + 1 = 8 - n + i := by omega
      rw [if_neg (by omega), hdown, ih (by omega) (by omega)]

/-- Eight data bits are the whole byte. -/
theorem shiftedIn_eight (b w : Byte) : shiftedIn b w 8 = b := by
  apply BitVec.eq_of_getLsbD_eq
  intro i hi
  simpa using shiftedIn_getLsbD b w 8 i le_rfl hi

/-- The levels of the first `n` data bits of `b`. -/
def dataLevels (bc : Nat) (b : Byte) (n : Nat) : List Bool :=
  (List.range n).flatMap fun i => List.replicate bc (b.getLsbD i)

theorem dataLevels_succ (bc : Nat) (b : Byte) (n : Nat) :
    dataLevels bc b (n + 1) = dataLevels bc b n ++ List.replicate bc (b.getLsbD n) := by
  simp [dataLevels, List.range_succ]

/-- The levels of a character: start bit, data bits, stop bit. -/
theorem characterLevels_eq (bc : Nat) (b : Byte) :
    characterLevels bc b = List.replicate bc false ++ (dataLevels bc b 8 ++ List.replicate bc true) := by
  have hbit : ∀ i ∈ List.range 10, List.replicate bc ((characterBits b).getLsbD i) =
      List.replicate bc (if i = 0 then false else if i = 9 then true else b.getLsbD (i - 1)) :=
    fun i hi => by rw [characterBits_getLsbD b i (List.mem_range.mp hi)]
  rw [characterLevels, List.flatMap_congr hbit]
  simp [dataLevels, List.range_succ]

/-- The first `n` data bits are shifted in one after the other. -/
theorem rxTicks_dataLevels {bc : Nat} (hbc : 2 ≤ bc) (b w : Byte) (p : Bool) (l : Line) (n : Nat) (hn : n ≤ 8) :
    ∃ p', rxTicks bc (dataLevels bc b n) (receiving .data w 0 (clocksLeft bc) p l) =
      (receiving (afterDataBits n) (shiftedIn b w n) n (clocksLeft bc) p' l, []) := by
  induction n with
  | zero => exact ⟨p, rfl⟩
  | succ n ih =>
    obtain ⟨p', hread⟩ := ih (by omega)
    have hdata : afterDataBits n = .data := if_pos (by omega)
    rw [dataLevels_succ, rxTicks_append hread, hdata, rxTicks_dataBit hbc]
    exact ⟨_, rfl⟩

/-- A character on the line is reported once, and leaves the receiver hunting. -/
theorem rxTicks_character {bc : Nat} (hbc : 2 ≤ bc) (b : Byte) {l : Line} (h : l.rxFsm = .hunting)
    (hp : l.rxPrev = true) :
    rxTicks bc (characterLevels bc b) l = (receiving .hunting b 8 0 true l, [.byte b]) := by
  obtain ⟨p, hdata⟩ := rxTicks_dataLevels hbc b l.rxShift false l 8 le_rfl
  rw [shiftedIn_eight] at hdata
  rw [characterLevels_eq, rxTicks_append (rxTicks_startBit hbc h hp), rxTicks_append hdata]
  exact rxTicks_stopBit hbc b 8 p l

/-- Settles O55: start bit, data bits and stop bit, each sampled once. -/
theorem receiverReadsCharacter : Obligations.ReceiverReadsCharacter := by
  intro bc b l hbc h hp
  rw [rxTicks_character hbc b h hp]
  exact ⟨rfl, rfl, rfl⟩

/-! The stop bit reaches the block (`42_uart.md` rules R93, R102). -/

/-- A good stop bit performs `Arrive`. -/
theorem lineTick_goodStop {bc : Nat} {s : State} (h : s.line.rxFsm = .stop) (hc : bc ≤ s.line.rxCount + 1) :
    ∃ l, l.rxFsm = .hunting ∧ lineTick bc true s = arrive s.line.rxShift { s with line := l } := by
  obtain ⟨hfsm, hshift, -, hcount, -⟩ := txTick_other bc s.line
  rw [lineTick_eq, rxTick_goodStop (hfsm.trans h) (hcount.symm ▸ hc), hshift]
  exact ⟨_, rfl, rfl⟩

/-- A bad stop bit sets FERR. -/
theorem lineTick_badStop {bc : Nat} {s : State} (h : s.line.rxFsm = .stop) (hc : bc ≤ s.line.rxCount + 1) :
    ∃ l, l.rxFsm = .recover ∧ lineTick bc false s = State.raise errFerr { s with line := l } := by
  obtain ⟨hfsm, -, -, hcount, -⟩ := txTick_other bc s.line
  rw [lineTick_eq, rxTick_badStop (hfsm.trans h) (hcount.symm ▸ hc)]
  exact ⟨_, rfl, rfl⟩

/-- Recovering, the receiver hunts again once the line is high, and reports nothing. -/
theorem rxTick_recovers (bc : Nat) {l : Line} (h : l.rxFsm = .recover) (rx : Bool) :
    rxTick bc rx l = ({ l with rxFsm := if rx then .hunting else .recover, rxPrev := rx }, .nothing) := by
  cases rx <;> simp [rxTick, h]

/-- Settles O56: the level at the sample point of the stop bit chooses between `Arrive` and FERR. -/
theorem stopBitDecides : Obligations.StopBitDecides := by
  intro bc s h hc
  obtain ⟨lg, hgood, hgoodTick⟩ := lineTick_goodStop h hc
  obtain ⟨lb, hbad, hbadTick⟩ := lineTick_badStop h hc
  rw [hgoodTick, hbadTick, raise_eq]
  refine ⟨fun hroom => ?_, fun hfull => ?_, hgood, rfl, rfl, hbad, fun l hl => ?_⟩
  · rw [arrive_queued s.line.rxShift { s with line := lg } hroom]
    exact ⟨rfl, rfl⟩
  · rw [arrive_dropped s.line.rxShift { s with line := lg } hfull]
    exact ⟨rfl, rfl⟩
  · rw [rxTick_recovers bc hl, rxTick_recovers bc hl]
    exact ⟨rfl, rfl, rfl⟩

/-! The holding register (`42_uart.md` rule R101). -/

/-- `WireTx` is enabled with the holding register empty. -/
theorem txReady_lineLevel {s : State} (hl : s.level = .lineLevel) : s.txReady = true ↔ s.line.txHold = none := by
  simp [State.txReady, hl]

/-- A full holding register keeps the TX phase waiting. -/
theorem seqStep_tx_waits {s : State} (hp : s.phase = .tx) (hr : s.txReady = false) : seqStep s = .next s :=
  seqStep_disabled s (by simp [State.seqEnabled, hp, hr])

/-- At line level `WireTx` also loads the holding register. -/
theorem wireTx_lineLevel {s : State} (hl : s.level = .lineLevel) (n : BitVec 4) (b : Byte) :
    wireTx b { s with idx := n } =
      { s with idx := n, txwire := s.txwire ++ [b], line := { s.line with txHold := some b } } := by
  simp [wireTx, loadHold, hl]

/-- The eighth TxStep of the line level, before it leaves the TX phase. -/
theorem txStep_eighth_lineLevel {s : State} (hl : s.level = .lineLevel) (hi : s.idx = 7) :
    txStep s = leaveTx { s with
      idx := 8, txwire := s.txwire ++ [s.txbuf.b7], line := { s.line with txHold := some s.txbuf.b7 } } := by
  rcases txStep_cases s with ⟨-, h⟩ | ⟨h, -⟩
  · rw [h, wireTx_lineLevel hl, hi]
    rfl
  · exact absurd (by rw [hi]; rfl) h

/-- Settles O57: with the holding register empty the step is TxStep, and the eighth leaves the TX phase by OP. -/
theorem wireTxWaitsForHoldingRegister : Obligations.WireTxWaitsForHoldingRegister := by
  intro s hl hp
  have hready := txReady_lineLevel hl
  have hsends (hempty : s.line.txHold = none) : seqStep s = .next (txStep s) := seqStep_tx s hp (hready.mpr hempty)
  refine ⟨fun hfull => ?waits, fun hempty hi => ?more, fun hempty hi ho => ?txf, fun hempty hi ho => ?xchg⟩
  case waits => exact seqStep_tx_waits hp (Bool.eq_false_iff.mpr (mt hready.mp hfull))
  case more =>
    rcases txStep_cases s with ⟨h, -⟩ | ⟨-, h⟩
    · bv_omega
    · rw [hsends hempty, h, wireTx_lineLevel hl]
  case txf =>
    rw [hsends hempty, txStep_eighth_lineLevel hl hi]
    exact congrArg Host.Outcome.next (leaveTx_txf _ (by simp [ho, opXchg]))
  case xchg =>
    rw [hsends hempty, txStep_eighth_lineLevel hl hi]
    exact congrArg Host.Outcome.next (leaveTx_xchg _ ho)

/-! The timeout counter (`42_uart.md` rule R103). -/

/-- Transmitter and receiver leave the timeout counter alone. -/
theorem lineTick_toCount (bc : Nat) (rx : Bool) (s : State) :
    (lineTick bc rx s).line.toCount = s.line.toCount := by
  obtain ⟨-, -, -, -, -, htx, -⟩ := txTick_other bc s.line
  obtain ⟨-, -, -, -, hrx, -⟩ := rxTick_other bc rx (txTick bc s.line)
  rw [lineTick_eq, takeReport_other]
  exact hrx.trans htx

theorem lineTick_tmo (bc : Nat) (rx : Bool) (s : State) : (lineTick bc rx s).tmo = s.tmo := by
  rw [lineTick_frame]

/-- The end of a frame read leaves the timeout counter alone. -/
theorem readEnd_toCount (s : State) : (readEnd s).line.toCount = s.line.toCount := by
  have hstrobe (lv : Level) (e : Event) (l : Line) : (strobe lv e l).toCount = l.toCount := by
    cases lv <;> rfl
  unfold readEnd endFrameRead
  split
  · exact hstrobe _ _ _
  · split <;> rfl
  · rfl

theorem readEnd_tmo (s : State) : (readEnd s).tmo = s.tmo := by rw [readEnd_frame]

/-- A frame read ends in another phase. -/
theorem afterRead_ne {p : Phase} (h : p = .rx ∨ p = .drainRx) : p.afterRead ≠ p := by
  rcases h with rfl | rfl <;> decide

/-- A clock that does not end a wait counts. -/
theorem clockStep_counts {bc n : Nat} {rx : Bool} {s : State}
    (h : (countWait (lineTick bc rx s)).waitExpired n = false) :
    clockStep bc n rx s = .next (countWait (lineTick bc rx s)) := by
  simp [clockStep, h]

/-- The clock that ends a wait performs `Timeout`. -/
theorem clockStep_timesOut {bc n : Nat} {rx : Bool} {s : State}
    (h : (countWait (lineTick bc rx s)).waitExpired n = true) :
    clockStep bc n rx s = .next (readEnd { clearWait (countWait (lineTick bc rx s)) with tmo := true }) := by
  have hp := (waiting_phase (waiting_of_waitExpired h)).1
  rw [clockStep, if_pos h, timeoutStep,
    frameReadEnds_eq { clearWait (countWait (lineTick bc rx s)) with tmo := true } hp]
  rfl

/-- The counter after a clock, by whether the sequencer waits. -/
theorem countWait_toCount (bc : Nat) (rx : Bool) (s : State) :
    (countWait (lineTick bc rx s)).line.toCount = if (lineTick bc rx s).waiting then s.line.toCount + 1 else 0 := by
  rw [countWait_line, ← lineTick_toCount bc rx s]

/-- A wait has expired once the clock's count reaches the limit. -/
theorem waitExpired_countWait (bc n : Nat) (rx : Bool) (s : State) :
    (countWait (lineTick bc rx s)).waitExpired n = true ↔
      (lineTick bc rx s).waiting = true ∧ n ≤ s.line.toCount + 1 := by
  have hwaiting : (countWait (lineTick bc rx s)).waiting = (lineTick bc rx s).waiting := rfl
  rw [State.waitExpired, hwaiting, countWait_toCount, Bool.and_eq_true, decide_eq_true_iff]
  exact and_congr_right fun hw => by rw [if_pos hw]

/-- Settles O58: the counter after the clock, and whether the wait has then expired. -/
theorem timeoutCounterCountsWaiting : Obligations.TimeoutCounterCountsWaiting := by
  intro bc n rx s _
  have hcount := countWait_toCount bc rx s
  have hexpired := waitExpired_countWait bc n rx s
  refine ⟨fun hw => ?clears, fun hw hn => ?counts, fun hw hn => ?timesOut⟩
  case clears =>
    have hgoes : ¬(countWait (lineTick bc rx s)).waitExpired n = true := fun h => by
      obtain ⟨hwaits, -⟩ := hexpired.mp h
      simp [hw] at hwaits
    refine ⟨_, clockStep_counts (Bool.eq_false_iff.mpr hgoes), ?_, lineTick_phase bc rx s⟩
    rw [hcount, hw]
    rfl
  case counts =>
    have hgoes : ¬(countWait (lineTick bc rx s)).waitExpired n = true := fun h => by
      obtain ⟨-, hlimit⟩ := hexpired.mp h
      omega
    refine ⟨_, clockStep_counts (Bool.eq_false_iff.mpr hgoes), ?_, lineTick_phase bc rx s, lineTick_tmo bc rx s⟩
    rw [hcount, if_pos hw]
  case timesOut =>
    have hp := (waiting_phase hw).1
    have hend : (readEnd { clearWait (countWait (lineTick bc rx s)) with tmo := true }).phase =
        (lineTick bc rx s).phase.afterRead :=
      readEnd_phase (s := { clearWait (countWait (lineTick bc rx s)) with tmo := true }) hp
    refine ⟨_, clockStep_timesOut (hexpired.mpr ⟨hw, hn⟩), readEnd_tmo _, ?_, readEnd_toCount _⟩
    rw [hend, ← lineTick_phase bc rx s]
    exact afterRead_ne hp

end Sys2Proof.Machine
end

section
/-!
The invariant of the block (`43_exchange.md` rule R120; `42_uart.md` rules R91, R95; `20_memory.md` rules R51, R53): it
is cut into the parts a turn can touch, and each part is shown to be kept by every turn.
-/

namespace Sys2Proof.Machine

/-! The end of a frame read, by what it ends (`43_exchange.md` rules R111, R115). -/

/-- The three ways a frame read ends: a drain turn, XCHG's reply read, RXF. -/
theorem readEnd_cases {s : State} (hp : s.phase = .rx ∨ s.phase = .drainRx) :
    (s.phase = .drainRx ∧ ∃ c, readEnd s = { classifyAs c (decodeStep s) with phase := .drainTest }) ∨
    (s.phase = .rx ∧ s.op = opXchg ∧ ∃ a, readEnd s = toIdle (interpretAs a (decodeStep s))) ∨
    (s.phase = .rx ∧ s.op ≠ opXchg ∧ readEnd s = toIdle s) := by
  rcases hp with hp | hp
  · by_cases ho : s.op = opXchg
    · exact .inr (.inl ⟨hp, ho, _, endFrameRead_reply _ _ s hp ho⟩)
    · exact .inr (.inr ⟨hp, ho, readEnd_rxf hp ho⟩)
  · exact .inl ⟨hp, _, readEnd_drainRx hp⟩

/-- The state in which a clock's `Timeout` ends the read. -/
def timedOutAt (rx : Bool) (s : State) : State :=
  { clearWait (countWait (lineTick bitClocks rx s)) with tmo := true }

/-- A clock's `Timeout` touches the line, RXQ, ERR and TMO before it ends the read. -/
theorem timedOutAt_frame (rx : Bool) (s : State) :
    timedOutAt rx s = { s with
      line := (timedOutAt rx s).line, rxq := (timedOutAt rx s).rxq, err := (timedOutAt rx s).err, tmo := true } := by
  rw [timedOutAt, lineTick_frame]
  rfl

theorem timedOutAt_rxq (rx : Bool) (s : State) : (timedOutAt rx s).rxq = (lineTick bitClocks rx s).rxq := by
  simp only [timedOutAt, clearWait_rxq, countWait_rxq]

/-- A clock performs `Timeout` in a frame read only. -/
theorem timedOutAt_reading {rx : Bool} {s : State}
    (h : (countWait (lineTick bitClocks rx s)).waitExpired timeoutClocks = true) :
    (timedOutAt rx s).phase = .rx ∨ (timedOutAt rx s).phase = .drainRx := by
  simpa [timedOutAt] using (waiting_phase (waiting_of_waitExpired h)).1

/-! TxStep, by what follows it (`42_uart.md` rule R92; `43_exchange.md` rule R115). -/

/-- `s` with the byte at IDX sent. -/
def byteSent (s : State) : State := wireTx (s.txbuf.get s.idx.toNat) { s with idx := s.idx + 1 }

/-- TxStep goes on, begins XCHG's reply read, or ends TXF. -/
theorem txStep_ways (s : State) :
    (s.idx ≠ 7 ∧ txStep s = byteSent s) ∨
    (s.idx = 7 ∧ s.op = opXchg ∧ txStep s = beginReply (byteSent s)) ∨
    (s.idx = 7 ∧ s.op ≠ opXchg ∧ txStep s = toIdle (byteSent s)) := by
  rcases txStep_cases s with ⟨h8, he⟩ | ⟨h8, he⟩
  · have h7 : s.idx = 7 := by bv_omega
    by_cases ho : s.op = opXchg
    · exact .inr (.inl ⟨h7, ho, he.trans (leaveTx_xchg _ ho)⟩)
    · exact .inr (.inr ⟨h7, ho, he.trans (leaveTx_txf _ ho)⟩)
  · exact .inl ⟨fun h7 => h8 (by rw [h7]; rfl), he⟩

/-! PHASE and OP (`43_exchange.md` rule R120). -/

theorem readEnd_phaseFitsOp {s : State} (hp : s.phase = .rx ∨ s.phase = .drainRx) (h : s.phaseFitsOp = true) :
    (readEnd s).phaseFitsOp = true := by
  rcases readEnd_cases hp with ⟨hp, c, he⟩ | ⟨-, -, a, he⟩ | ⟨-, -, he⟩ <;> rw [he]
  · simpa [State.phaseFitsOp, hp, classifyAs] using h
  · rfl
  · rfl

theorem txStep_phaseFitsOp {s : State} (h : s.phaseFitsOp = true) : (txStep s).phaseFitsOp = true := by
  rcases txStep_ways s with ⟨-, he⟩ | ⟨-, ho, he⟩ | ⟨-, -, he⟩ <;> rw [he]
  · exact h
  · simp [State.phaseFitsOp, beginReply, byteSent, ho]
  · rfl

/-- Every turn leads from a pair of rule R120 to a pair of rule R120. -/
theorem moves_phaseFitsOp {t : Turn} {s u : State} (h : Moves t s u) (hs : s.phaseFitsOp = true) :
    u.phaseFitsOp = true := by
  cases h with
  | txf | rxf | drn | xchg | flush | drainDone | flushed | rst => rfl
  | encode _ _ ho => simp [State.phaseFitsOp, ho]
  | drainTurn _ hp => simpa [State.phaseFitsOp, hp] using hs
  | storeLast _ _ _ hp => exact readEnd_phaseFitsOp hp hs
  | timeout _ _ hw => exact readEnd_phaseFitsOp (waiting_phase hw).1 hs
  | clockTimeout rx _ _ hw =>
    refine readEnd_phaseFitsOp (s := timedOutAt rx s) (timedOutAt_reading hw) ?_
    rw [timedOutAt_frame]
    exact hs
  | send => exact txStep_phaseFitsOp hs
  | idleWrite =>
    rw [writeIdle_frame]
    exact hs
  | clock rx =>
    rw [lineTick_frame]
    exact hs
  | _ => exact hs

/-! The frame read (`42_uart.md` rule R95; `43_exchange.md` rule R111). -/

/-- The part of the invariant that speaks of a frame read in progress. -/
structure Reading (s : State) : Prop where
  clean : s.readBufferClean
  hasByte : s.turnHasByte

/-- Outside a frame read nothing is claimed. -/
theorem reading_of_not_reading {s : State} (h : ¬(s.phase = .rx ∨ s.phase = .drainRx)) : Reading s :=
  ⟨fun hp => absurd hp h, fun hp => absurd (.inr hp) h⟩

/-- A frame read begins with nothing stored, a drain turn's with a byte queued. -/
theorem reading_readFrameBegin {s : State} (h : s.phase = .drainRx → s.rxq ≠ []) : Reading (readFrameBegin s) :=
  ⟨fun _ => ⟨by simp, fun i hi => absurd hi (Nat.not_lt_zero i), fun i _ _ => get_zero i⟩, fun hp _ => h hp⟩

/-- A byte that does not end the read is not the terminator, nor the eighth. -/
theorem readEnds_eq_false {s : State} {b : Byte} (h : s.readEnds b = false) : b ≠ endMarker ∧ s.rxlen ≠ 8 := by
  simpa [State.readEnds] using h

/-- RxStep stores the next byte behind the others. -/
theorem reading_storeByte {s : State} {b : Byte} {q : List Byte} (hs : Reading s)
    (he : (storeByte b q s).readEnds b = false) : Reading (storeByte b q s) := by
  obtain ⟨hb, hlen⟩ := readEnds_eq_false he
  have hnext (hlt : s.rxlen.toNat < 8) : (s.rxlen + 1).toNat = s.rxlen.toNat + 1 ∧ (s.rxlen + 1).toNat < 8 := by
    have : s.rxlen + 1 ≠ 8 := hlen
    bv_omega
  refine ⟨fun hp => ?_, fun hp hzero => ?_⟩
  · obtain ⟨hlt, hstored, hrest⟩ := hs.clean hp
    obtain ⟨hsucc, hlt'⟩ := hnext hlt
    rw [storeByte_rxlen, storeByte_rxbuf]
    refine ⟨hlt', fun i hi => ?_, fun i hi hi8 => ?_⟩
    · by_cases hlast : s.rxlen.toNat = i
      · rw [← hlast, get_set_same _ _ _ hlt]
        exact hb
      · rw [get_set_other _ _ _ _ hlast]
        exact hstored i (by omega)
    · rw [get_set_other _ _ _ _ (by omega)]
      exact hrest i (by omega) hi8
  · obtain ⟨hlt, -⟩ := hs.clean (.inr hp)
    obtain ⟨hsucc, -⟩ := hnext hlt
    have hnonzero : s.rxlen + 1 ≠ 0 := by bv_omega
    exact absurd hzero hnonzero

theorem takesNewest_ne_nil {q q' : List Byte} (h : TakesNewest q q') (hq : q ≠ []) : q' ≠ [] := by
  rcases h with rfl | ⟨b, rfl⟩
  · exact hq
  · simp

/-- A byte that arrives leaves a frame read as it was. -/
theorem Reading.takesNewest {s u : State} (hs : Reading s) (hq : TakesNewest s.rxq u.rxq) (hp : u.phase = s.phase)
    (hlen : u.rxlen = s.rxlen) (hbuf : u.rxbuf = s.rxbuf) : Reading u := by
  refine ⟨?_, fun hphase hzero => takesNewest_ne_nil hq (hs.hasByte (hp ▸ hphase) (hlen ▸ hzero))⟩
  rw [State.readBufferClean, hp, hlen, hbuf]
  exact hs.clean

/-- After the end of a frame read none is in progress. -/
theorem reading_readEnd {s : State} (hp : s.phase = .rx ∨ s.phase = .drainRx) : Reading (readEnd s) := by
  apply reading_of_not_reading
  rw [readEnd_phase hp]
  rcases hp with hp | hp <;> simp [hp, Phase.afterRead]

theorem reading_txStep {s : State} (hp : s.phase = .tx) : Reading (txStep s) := by
  rcases txStep_ways s with ⟨-, he⟩ | ⟨-, -, he⟩ | ⟨-, -, he⟩ <;> rw [he]
  · exact reading_of_not_reading (by simp [byteSent, hp])
  · exact reading_readFrameBegin nofun
  · exact reading_of_not_reading (by simp)

/-- Every turn leaves a frame read clean. -/
theorem moves_reading {t : Turn} {s u : State} (h : Moves t s u) (hs : Reading s) : Reading u := by
  cases h with
  | rxf => exact reading_readFrameBegin nofun
  | drainTurn _ _ hq => exact reading_readFrameBegin fun _ => hq
  | store _ _ _ _ _ he => exact reading_storeByte hs he
  | storeLast _ _ _ hp => exact reading_readEnd hp
  | timeout _ _ hw => exact reading_readEnd (waiting_phase hw).1
  | clockTimeout rx _ _ hw => exact reading_readEnd (timedOutAt_reading hw)
  | send _ hp => exact reading_txStep hp
  | arrive b | arriveClear b => exact hs.takesNewest (arriveInto_takesNewest _ b _ s) rfl rfl rfl
  | clock rx =>
    refine hs.takesNewest (lineTick_takesNewest bitClocks rx s) ?_ ?_ ?_ <;> rw [lineTick_frame] <;> rfl
  | idleWrite _ _ _ hp =>
    rw [writeIdle_frame]
    exact reading_of_not_reading (by simp [hp])
  | enc _ hp | dec _ hp => exact reading_of_not_reading (by simp [hp])
  | txf | drn | xchg | flush | drainDone | encode | flushed | rst => exact reading_of_not_reading nofun
  | _ => exact ⟨hs.clean, hs.hasByte⟩

/-! The request on its way (`42_uart.md` rule R91; `20_memory.md` rules R48, R51, R53). -/

/-- The part of the invariant that speaks of the bytes sent. -/
structure Sending (s : State) : Prop where
  idx : s.idxInRange
  sent : s.sentSoFar
  request : s.requestIsOperands

theorem idxInRange_iff (s : State) :
    s.idxInRange = true ↔ s.idx.toNat ≤ 8 ∧ (s.phase = .tx → s.idx.toNat < 8) := by
  simp [State.idxInRange, imp_iff_not_or]

/-- Outside the TX phase and XCHG's reply read only the bound on IDX is claimed. -/
theorem sending_of_not_sending {s : State} (hi : s.idx.toNat ≤ 8) (hp : s.phase ≠ .tx)
    (hr : s.phase = .rx → s.op ≠ opXchg) : Sending s :=
  ⟨(idxInRange_iff s).mpr ⟨hi, fun h => absurd h hp⟩, fun h => absurd h hp,
    fun ho => ⟨fun h => absurd h hp, fun h => absurd ho (hr h)⟩⟩

/-- The TX phase begins with nothing sent, XCHG's with the frame of the operands built. -/
theorem sending_enterTx {s : State} (h : s.op = opXchg → s.txbuf = mkFrame s.argOpc s.argFb s.argP1 s.argP2) :
    Sending (enterTx s) :=
  ⟨rfl, fun _ => List.nil_suffix, fun ho => ⟨fun _ => h ho, nofun⟩⟩

/-- Taking one byte more. -/
theorem toList_take_succ (f : Buf8) (i : Nat) (h : i < 8) : f.toList.take (i + 1) = f.toList.take i ++ [f.get i] := by
  interval_cases i <;> rfl

/-- TxStep puts the next byte of TXBUF behind those on the wire. -/
theorem byteSent_suffix {s : State} (hi : s.idx.toNat < 8) (h : s.txbuf.toList.take s.idx.toNat <:+ s.txwire) :
    s.txbuf.toList.take (s.idx.toNat + 1) <:+ (byteSent s).txwire := by
  rw [toList_take_succ _ _ hi]
  exact (List.suffix_append_inj_of_length_eq rfl).mpr ⟨h, rfl⟩

theorem sending_txStep {s : State} (hp : s.phase = .tx) (hs : Sending s) : Sending (txStep s) := by
  obtain ⟨-, hlt⟩ := (idxInRange_iff s).mp hs.idx
  have hi := hlt hp
  have hsent := byteSent_suffix hi (hs.sent hp)
  have hidx : (s.idx + 1).toNat = s.idx.toNat + 1 := by bv_omega
  rcases txStep_ways s with ⟨h7, he⟩ | ⟨h7, ho, he⟩ | ⟨-, -, he⟩ <;> rw [he]
  · have hmore : (byteSent s).idx.toNat < 8 := by
      change (s.idx + 1).toNat < 8
      bv_omega
    refine ⟨(idxInRange_iff _).mpr ⟨hmore.le, fun _ => hmore⟩, fun _ => ?_, fun ho => ?_⟩
    · change s.txbuf.toList.take (s.idx + 1).toNat <:+ (byteSent s).txwire
      rwa [hidx]
    · obtain ⟨hbuilt, -⟩ := hs.request ho
      exact ⟨hbuilt, fun h => by simp [byteSent, hp] at h⟩
  · obtain ⟨hbuilt, -⟩ := hs.request ho
    refine ⟨(idxInRange_iff _).mpr ⟨?_, nofun⟩, nofun, fun _ => ⟨nofun, fun _ => ⟨hbuilt hp, ?_⟩⟩⟩
    · change (s.idx + 1).toNat ≤ 8
      omega
    · rw [h7] at hsent
      exact hsent
  · refine sending_of_not_sending ?_ nofun nofun
    change (s.idx + 1).toNat ≤ 8
    omega

theorem sending_readEnd {s : State} (hp : s.phase = .rx ∨ s.phase = .drainRx) (hi : s.idx.toNat ≤ 8) :
    Sending (readEnd s) := by
  obtain ⟨htx, hrx⟩ : (readEnd s).phase ≠ .tx ∧ (readEnd s).phase ≠ .rx := by
    rw [readEnd_phase hp]
    rcases hp with hp | hp <;> simp [hp, Phase.afterRead]
  refine sending_of_not_sending ?_ htx fun h => absurd h hrx
  rw [readEnd_frame]
  exact hi

/-- Every turn keeps what the block has on the wire and what it is about to send. -/
theorem moves_sending {t : Turn} {s u : State} (h : Moves t s u) (hs : Sending s) : Sending u := by
  obtain ⟨hi, -⟩ := (idxInRange_iff s).mp hs.idx
  cases h with
  | txf => exact sending_enterTx nofun
  | encode => exact sending_enterTx fun _ => rfl
  | send _ hp => exact sending_txStep hp hs
  | storeLast _ _ _ hp => exact sending_readEnd hp hi
  | timeout _ _ hw => exact sending_readEnd (waiting_phase hw).1 hi
  | clockTimeout rx _ _ hw =>
    refine sending_readEnd (s := timedOutAt rx s) (timedOutAt_reading hw) ?_
    rw [timedOutAt_frame]
    exact hi
  | clock rx =>
    rw [lineTick_frame]
    exact ⟨hs.idx, hs.sent, hs.request⟩
  | idleWrite _ _ _ hp =>
    rw [writeIdle_frame]
    exact sending_of_not_sending hi (by simp [hp]) fun h => by simp [hp] at h
  | enc _ hp | dec _ hp => exact sending_of_not_sending hi (by simp [hp]) fun h => by simp [hp] at h
  | rxf =>
    have hop : opRxf ≠ opXchg := by decide
    exact sending_of_not_sending hi nofun fun _ => hop
  | drn | xchg | flush | drainDone | drainTurn | flushed => exact sending_of_not_sending hi nofun nofun
  | rst => exact sending_of_not_sending (Nat.zero_le 8) nofun nofun
  | _ => exact ⟨hs.idx, hs.sent, hs.request⟩

/-! RXQ (`10_state.md` rule R27). -/

theorem arriveInto_queueFits {b : Byte} {c : BitVec 3} {s : State} (hs : s.queueFits) :
    (arriveInto Config.rxqDepth b c s).queueFits := by
  rw [State.queueFits, arriveInto_rxq]
  split
  · simpa using ‹s.rxq.length < Config.rxqDepth›
  · exact hs

theorem lineTick_queueFits {bc : Nat} {rx : Bool} {s : State} (hs : s.queueFits) : (lineTick bc rx s).queueFits := by
  rw [lineTick_eq]
  rcases takeReport_cases (rxTick bc rx (txTick bc s.line)).2
    { s with line := { (rxTick bc rx (txTick bc s.line)).1 with evt := none } } with h | ⟨b, -, h⟩ | ⟨-, h⟩ <;>
    rw [h]
  · exact hs
  · exact arriveInto_queueFits hs
  · exact hs

/-- A shorter queue fits. -/
theorem queueFits_of_tail {s u : State} {b : Byte} (hs : s.queueFits) (hq : s.rxq = b :: u.rxq) : u.queueFits := by
  rw [State.queueFits, hq, List.length_cons] at hs
  exact (Nat.le_succ _).trans hs

theorem readEnd_queueFits {s : State} (hs : s.queueFits) : (readEnd s).queueFits := by
  rw [State.queueFits, readEnd_rxq]
  exact hs

/-- Every turn keeps RXQ within its depth. -/
theorem moves_queueFits {t : Turn} {s u : State} (h : Moves t s u) (hs : s.queueFits) : u.queueFits := by
  cases h with
  | arrive | arriveClear => exact arriveInto_queueFits hs
  | clock => exact lineTick_queueFits hs
  | clockTimeout rx =>
    refine readEnd_queueFits (s := timedOutAt rx s) ?_
    rw [State.queueFits, timedOutAt_rxq]
    exact lineTick_queueFits hs
  | store _ b q _ hq => exact queueFits_of_tail hs hq
  | storeLast _ b q _ hq => exact readEnd_queueFits (s := storeByte b q s) (queueFits_of_tail hs hq)
  | timeout => exact readEnd_queueFits hs
  | rst => exact Nat.zero_le _
  | send =>
    rw [State.queueFits, txStep_rxq]
    exact hs
  | idleWrite =>
    rw [writeIdle_frame]
    exact hs
  | _ => exact hs

/-! DSTAT, RESULT and RKIND (`10_state.md` rules R17, R25). -/

/-- The part of the invariant that speaks of what a frame reports. -/
structure Reporting (s : State) : Prop where
  valid : s.validIsAnd
  result : s.resultFitsKind

theorem decodeStep_validIsAnd (s : State) : (decodeStep s).validIsAnd := by
  obtain ⟨h0, h1, h2, h3, h4⟩ := dstatOf_bits s.rxbuf s.rxlen
  rw [State.validIsAnd, State.valid, decodeStep_dstat, h0, h1, h2, h3, h4]
  rfl

theorem interpretAs_resultFitsKind (a : ReplyArm) (s : State) : (interpretAs a s).resultFitsKind := by
  rw [State.resultFitsKind, interpretAs_result, interpretAs_rkind]
  cases s.armTaken a <;> simp [ReplyArm.result, ReplyArm.kind]

theorem reporting_readEnd {s : State} (hp : s.phase = .rx ∨ s.phase = .drainRx) (hs : Reporting s) :
    Reporting (readEnd s) := by
  rcases readEnd_cases hp with ⟨-, c, he⟩ | ⟨-, -, a, he⟩ | ⟨-, -, he⟩ <;> rw [he]
  · exact ⟨decodeStep_validIsAnd s, hs.result⟩
  · exact ⟨decodeStep_validIsAnd s, interpretAs_resultFitsKind a _⟩
  · exact ⟨hs.valid, hs.result⟩

/-- Every turn keeps the reports consistent. -/
theorem moves_reporting {t : Turn} {s u : State} (h : Moves t s u) (hs : Reporting s) : Reporting u := by
  cases h with
  | dec => exact ⟨decodeStep_validIsAnd s, hs.result⟩
  | storeLast _ _ _ hp => exact reporting_readEnd hp ⟨hs.valid, hs.result⟩
  | timeout _ _ hw => exact reporting_readEnd (waiting_phase hw).1 ⟨hs.valid, hs.result⟩
  | clockTimeout rx _ _ hw =>
    refine reporting_readEnd (s := timedOutAt rx s) (timedOutAt_reading hw) ?_
    rw [timedOutAt_frame]
    exact ⟨hs.valid, hs.result⟩
  | rst => exact ⟨resetMeetsInvariant.validIsAnd, resetMeetsInvariant.resultFitsKind⟩
  | send =>
    rw [txStep_frame]
    exact ⟨hs.valid, hs.result⟩
  | clock rx =>
    rw [lineTick_frame]
    exact ⟨hs.valid, hs.result⟩
  | idleWrite =>
    rw [writeIdle_frame]
    exact ⟨hs.valid, hs.result⟩
  | _ => exact ⟨hs.valid, hs.result⟩

/-! The line (`10_state.md` rule R29; `42_uart.md` rules R100 to R102). -/

/-- The bit counters of a line stay in the range of a ten-bit character. -/
structure Line.InRange (l : Line) : Prop where
  txBits : l.txBits ≤ 10
  data : l.rxFsm = .data → l.rxBits < 8
  stop : l.rxFsm = .stop → l.rxBits = 8

/-- The part of the invariant that speaks of the line. -/
structure LineSound (s : State) : Prop where
  idle : s.level = .byteLevel → s.line = Line.idle
  inRange : s.line.InRange

theorem Line.idle_inRange : Line.idle.InRange := ⟨Nat.zero_le _, nofun, nofun⟩

/-- Only the transmitter's and the receiver's own bit counters count. -/
theorem Line.InRange.congr {l l' : Line} (h : l.InRange) (htx : l'.txBits = l.txBits) (hfsm : l'.rxFsm = l.rxFsm)
    (hrx : l'.rxBits = l.rxBits) : l'.InRange :=
  ⟨htx ▸ h.txBits, fun hd => hrx ▸ h.data (hfsm ▸ hd), fun hd => hrx ▸ h.stop (hfsm ▸ hd)⟩

theorem txTick_txBits (bc : Nat) {l : Line} (h : l.txBits ≤ 10) : (txTick bc l).txBits ≤ 10 := by
  have hnext : (nextCharacter l).txBits ≤ 10 := by
    cases hh : l.txHold with
    | none => simp [nextCharacter_none l hh]
    | some b => simp [nextCharacter_some l b hh, startCharacter]
  unfold txTick
  split_ifs
  · exact hnext
  · exact h
  · exact hnext
  · exact (Nat.sub_le _ 1).trans h

theorem txTick_inRange (bc : Nat) {l : Line} (h : l.InRange) : (txTick bc l).InRange := by
  obtain ⟨hfsm, -, hbits, -⟩ := txTick_other bc l
  refine ⟨txTick_txBits bc h.txBits, ?_, ?_⟩
  · rw [hfsm, hbits]
    exact h.data
  · rw [hfsm, hbits]
    exact h.stop

/-- The receiver leaves for the stop bit with the eighth data bit sampled. -/
theorem rxTick_inRange (bc : Nat) (rx : Bool) {l : Line} (h : l.InRange) : (rxTick bc rx l).1.InRange := by
  obtain ⟨-, -, htx, -⟩ := rxTick_other bc rx l
  obtain ⟨hdata, hstop⟩ : ((rxTick bc rx l).1.rxFsm = .data → (rxTick bc rx l).1.rxBits < 8) ∧
      ((rxTick bc rx l).1.rxFsm = .stop → (rxTick bc rx l).1.rxBits = 8) := by
    cases hf : l.rxFsm with
    | hunting | start | recover =>
      simp only [rxTick, hf]
      split_ifs <;> simp
    | data =>
      have hbits := h.data hf
      simp only [rxTick, hf]
      split_ifs <;> simp <;> omega
    | stop =>
      have hbits := h.stop hf
      simp only [rxTick, hf]
      split_ifs <;> simp [hbits]
  exact ⟨htx ▸ h.txBits, hdata, hstop⟩

theorem lineTick_inRange (bc : Nat) (rx : Bool) {s : State} (h : s.line.InRange) :
    (lineTick bc rx s).line.InRange := by
  rw [lineTick_eq, takeReport_other]
  exact (rxTick_inRange bc rx (txTick_inRange bc h)).congr rfl rfl rfl

theorem strobe_inRange (lv : Level) (e : Event) {l : Line} (h : l.InRange) : (strobe lv e l).InRange := by
  cases lv with
  | byteLevel => exact h
  | lineLevel => exact h.congr rfl rfl rfl

theorem loadHold_inRange (lv : Level) (b : Byte) {l : Line} (h : l.InRange) : (loadHold lv b l).InRange := by
  cases lv with
  | byteLevel => exact h
  | lineLevel => exact h.congr rfl rfl rfl

/-- At line level only the counters are claimed. -/
theorem lineSound_of_lineLevel {s : State} (hl : s.level = .lineLevel) (h : s.line.InRange) : LineSound s :=
  ⟨fun hb => absurd (hl.symm.trans hb) nofun, h⟩

/-- The end of a frame read touches the event port only, and that at line level only. -/
theorem lineSound_readEnd {s : State} (hp : s.phase = .rx ∨ s.phase = .drainRx) (hs : LineSound s) :
    LineSound (readEnd s) := by
  rcases readEnd_cases hp with ⟨-, c, he⟩ | ⟨-, -, a, he⟩ | ⟨-, -, he⟩ <;> rw [he]
  · refine ⟨fun hl => ?_, strobe_inRange _ _ hs.inRange⟩
    have hb : s.level = .byteLevel := hl
    simp [classifyAs, strobe, hb, hs.idle hb]
  · exact ⟨hs.idle, hs.inRange⟩
  · exact ⟨hs.idle, hs.inRange⟩

/-- TxStep loads the holding register, and that at line level only. -/
theorem lineSound_txStep {s : State} (hs : LineSound s) : LineSound (txStep s) := by
  have hsent : LineSound (byteSent s) := by
    refine ⟨fun hl => ?_, loadHold_inRange _ _ hs.inRange⟩
    have hb : s.level = .byteLevel := hl
    simp [byteSent, loadHold, hb, hs.idle hb]
  rcases txStep_ways s with ⟨-, he⟩ | ⟨-, -, he⟩ | ⟨-, -, he⟩ <;> rw [he]
  · exact hsent
  · exact ⟨hsent.idle, hsent.inRange⟩
  · exact ⟨hsent.idle, hsent.inRange⟩

/-- Every turn keeps the line sound. -/
theorem moves_lineSound {t : Turn} {s u : State} (h : Moves t s u) (hs : LineSound s) : LineSound u := by
  cases h with
  | storeLast _ _ _ hp => exact lineSound_readEnd hp ⟨hs.idle, hs.inRange⟩
  | timeout _ _ hw => exact lineSound_readEnd (waiting_phase hw).1 ⟨hs.idle, hs.inRange⟩
  | clock rx _ hl =>
    refine lineSound_of_lineLevel ?_ ((lineTick_inRange bitClocks rx hs.inRange).congr rfl rfl rfl)
    rw [lineTick_frame]
    exact hl
  | clockTimeout rx _ hl hw =>
    have hclock := lineTick_inRange bitClocks rx hs.inRange
    refine lineSound_readEnd (s := timedOutAt rx s) (timedOutAt_reading hw) (lineSound_of_lineLevel ?_ ?_)
    · rw [timedOutAt_frame]
      exact hl
    · exact hclock.congr rfl rfl rfl
  | rst => exact ⟨fun _ => rfl, Line.idle_inRange⟩
  | send => exact lineSound_txStep hs
  | idleWrite =>
    rw [writeIdle_frame]
    exact ⟨hs.idle, hs.inRange⟩
  | _ => exact ⟨hs.idle, hs.inRange⟩

/-! The parts together. -/

/-- The parts of the invariant are the invariant. -/
theorem inv_iff (s : State) : s.Inv ↔
    s.phaseFitsOp = true ∧ Reading s ∧ Sending s ∧ s.queueFits ∧ Reporting s ∧ LineSound s := by
  constructor
  · intro h
    obtain ⟨htx, hdata, hstop⟩ := h.lineCountersInRange
    exact ⟨h.phaseFitsOp, ⟨h.readBufferClean, h.turnHasByte⟩,
      ⟨h.idxInRange, h.sentSoFar, h.requestIsOperands⟩, h.queueFits, ⟨h.validIsAnd, h.resultFitsKind⟩,
      ⟨h.lineIdleAtByteLevel, htx, hdata, hstop⟩⟩
  · rintro ⟨hop, hreading, hsending, hqueue, hreporting, hline⟩
    obtain ⟨htx, hdata, hstop⟩ := hline.inRange
    exact ⟨hop, hsending.idx, hreading.clean, hreading.hasByte, hsending.sent, hsending.request, hqueue,
      hreporting.valid, hreporting.result, hline.idle, htx, hdata, hstop⟩

/-- Every turn keeps the invariant. -/
theorem moves_inv {t : Turn} {s u : State} (h : Moves t s u) (hs : s.Inv) : u.Inv := by
  obtain ⟨hop, hreading, hsending, hqueue, hreporting, hline⟩ := (inv_iff s).mp hs
  exact (inv_iff u).mpr ⟨moves_phaseFitsOp h hop, moves_reading h hreading, moves_sending h hsending,
    moves_queueFits h hqueue, moves_reporting h hreporting, moves_lineSound h hline⟩

/-- The invariant does not speak of the model's own schedule. -/
theorem inv_turnSpent {s : State} (h : s.Inv) : s.turnSpent.Inv := by
  rw [turnSpent_eq]
  exact ⟨h.phaseFitsOp, h.idxInRange, h.readBufferClean, h.turnHasByte, h.sentSoFar, h.requestIsOperands, h.queueFits,
    h.validIsAnd, h.resultFitsKind, h.lineIdleAtByteLevel, h.lineCountersInRange⟩

/-- Settles O50: a step is a turn, and every turn keeps each part of the invariant. -/
theorem everyStepKeepsInvariant : Obligations.EveryStepKeepsInvariant := fun _ _ hs hstep =>
  moves_inv (moves_step hstep) (inv_turnSpent hs)

end Sys2Proof.Machine
end

section
/-!
Steps of the exchange, one at a time (`43_exchange.md` rules R111, R112, R115, R116, R120): the issue steps, the
sequencer's rows, the classify and interpret steps, and a frame opcode where it meets the block.
-/

namespace Sys2Proof.Machine

/-! The issue steps (`43_exchange.md` rule R120, rows 3 to 7). -/

/-- Settles O9: while idle the issue is the operation's first step. -/
theorem issueStepsBeginOperations : Obligations.IssueStepsBeginOperations := fun s hidle =>
  ⟨congrArg Host.Outcome.next (issue_idle beginTxf s hidle), congrArg Host.Outcome.next (issue_idle beginRxf s hidle),
    congrArg Host.Outcome.next (issue_idle beginDrn s hidle), congrArg Host.Outcome.next (issue_idle beginXchg s hidle),
    congrArg Host.Outcome.next (issue_idle beginFlush s hidle)⟩

/-! The end of a frame read (`43_exchange.md` rules R111, R115, R120). -/

/-- Settles O24: the end follows the byte at offset 1, which is what the decode step puts into DEC_OPC. -/
theorem frameEndFollowsOpcodeByte : Obligations.FrameEndFollowsOpcodeByte := by
  refine fun s => ⟨fun hp => ?drained, fun hp ho => ?reply, fun hp ho => ?rxf⟩
  case drained => rw [frameReadEnds_eq s (.inr hp), endFrameRead_drainRx _ _ s hp]; rfl
  case reply => rw [frameReadEnds_eq s (.inl hp), endFrameRead_reply _ _ s hp ho]; rfl
  case rxf => rw [frameReadEnds_eq s (.inl hp), endFrameRead_rxf _ _ s hp ho]

/-! The interpret step (`43_exchange.md` rule R116). -/

/-- A frame is usable in compat mode, and in strict mode if it is valid. -/
theorem usable_iff (s : State) : s.usable = true ↔ s.strict = false ∨ s.dstat.getLsbD 4 = true := by
  simp [State.usable, State.valid]

theorem armTaken_usable {s : State} (h : s.usable = true) (a : ReplyArm) : s.armTaken a = a := by
  simp [State.armTaken, h]

theorem classEmitted_usable {s : State} (h : s.usable = true) (c : EvClass) : s.classEmitted c = c := by
  simp [State.classEmitted, h]

/-- The query opcodes (`43_exchange.md` rule R116). -/
abbrev queryOpcodes : List Byte := [0x43, 0x44, 0x47, 0x48, 0x4B, 0x4C, 0x4E]

theorem isQuery_iff (o : Byte) : isQuery o = true ↔ o ∈ queryOpcodes := by
  simp [isQuery, or_assoc]

/-- The arms, with the opcodes written out. -/
theorem replyArm_eq (o : Byte) :
    replyArm o =
      if o ∈ queryOpcodes then .value
      else if o = 0x40 then .nakCode else if o = 0x41 then .ack else .falsy := by
  simp only [replyArm, isQuery_iff]

/-- NAK is no query. -/
theorem ne_nak_of_query {o : Byte} (h : o ∈ queryOpcodes) : o ≠ 0x40 := by
  rintro rfl
  revert h
  decide

/-- Settles O25: an unusable frame takes the last arm; a usable one the arm its opcode selects. -/
theorem interpretStepArms : Obligations.InterpretStepArms := by
  intro s
  rw [interpret, interpretAs]
  by_cases hu : s.strict = false ∨ s.dstat.getLsbD 4 = true
  swap
  · rw [armTaken_unusable (Bool.eq_false_iff.mpr (mt (usable_iff s).mp hu)), if_neg (mt And.left hu),
      if_neg (mt And.left hu)]
    rfl
  rw [armTaken_usable ((usable_iff s).mpr hu), replyArm_eq]
  by_cases hq : s.decOpc ∈ queryOpcodes
  · rw [if_pos hq, if_pos ⟨hu, .inl hq⟩, if_neg (ne_nak_of_query hq)]
    rfl
  by_cases hnak : s.decOpc = 0x40
  · rw [if_neg hq, if_pos hnak, if_pos ⟨hu, .inr hnak⟩, if_pos hnak]
    rfl
  have hneither : ¬(s.decOpc ∈ queryOpcodes ∨ s.decOpc = 0x40) :=
    not_or.mpr ⟨hq, hnak⟩
  rw [if_neg hq, if_neg hnak, if_neg (mt And.right hneither)]
  by_cases hack : s.decOpc = 0x41
  · rw [if_pos hack, if_pos ⟨hu, hack⟩]
    rfl
  · rw [if_neg hack, if_neg (mt And.right hack)]
    rfl

/-- In compat mode a reply's result is its opcode's arm and its byte 4. -/
theorem readEnd_compat_reply {s : State} (hp : s.phase = .rx) (ho : s.op = opXchg) (hs : s.strict = false) :
    (readEnd s).result = (replyArm s.rxbuf.b1).result s.rxbuf.b4 ∧
      (readEnd s).rkind = (replyArm s.rxbuf.b1).kind := by
  have hu : (decodeStep s).usable = true := (usable_iff _).mpr (.inl hs)
  rw [readEnd, endFrameRead_reply _ _ s hp ho]
  simp [armTaken_usable hu]

/-- Settles O27: `readEnd_compat_reply` names the two bytes. -/
theorem compatResultDependsOnTwoBytes : Obligations.CompatResultDependsOnTwoBytes := by
  intro s s' t t' hs hs' hp hp' ho ho' h1 h4 hend hend'
  obtain ⟨hresult, hkind⟩ := readEnd_compat_reply hp ho hs
  obtain ⟨hresult', hkind'⟩ := readEnd_compat_reply hp' ho' hs'
  rw [frameReadEnds_readEnd (.inl hp) hend, frameReadEnds_readEnd (.inl hp') hend', hresult, hresult', hkind, hkind',
    h1, h4]
  exact ⟨rfl, rfl⟩

/-! The classify step (`43_exchange.md` rule R112; `10_state.md` rule R28). -/

theorem insertClass_code (p2 : Byte) : (insertClass p2).code = if p2 = 1 then 1 else if p2 = 2 then 2 else 3 := by
  change (if p2 = 1 then EvClass.insertUsb else if p2 = 2 then .insertCard else .insertUnk).code = _
  split_ifs <;> rfl

theorem removeClass_code (p2 : Byte) : (removeClass p2).code = if p2 = 1 then 4 else if p2 = 2 then 5 else 6 := by
  change (if p2 = 1 then EvClass.removeUsb else if p2 = 2 then .removeCard else .removeUnk).code = _
  split_ifs <;> rfl

theorem startupClass_code (c : StartupCodes) (p2 : Byte) :
    (startupClass c p2).code =
      if p2 = c.none then 9 else if p2 = c.usb then 10 else if p2 = c.card then 11 else if p2 = c.both then 12
      else 13 := by
  unfold startupClass
  split_ifs <;> rfl

/-- The code of a usable frame's class, by its opcode. -/
theorem eventClass_code (c : StartupCodes) (o p2 : Byte) :
    (eventClass c o p2).code =
      if o = 0x3A then (insertClass p2).code else if o = 0x3B then (removeClass p2).code else if o = 0x3C then 7
      else if o = 0x3D then 8 else if o = 0x3F then (startupClass c p2).code else 0 := by
  unfold eventClass
  split_ifs <;> rfl

/-- Settles O26: a usable frame's class is its opcode's, and an unusable one's is EV_OTHER. -/
theorem classifyStepBranches : Obligations.ClassifyStepBranches := by
  refine fun s => ⟨s.classEmitted (eventClass Config.startup s.decOpc s.decP2), rfl, ?code⟩
  rw [← insertClass_code, ← removeClass_code, ← startupClass_code, ← eventClass_code]
  by_cases hu : s.strict = false ∨ s.dstat.getLsbD 4 = true
  · rw [classEmitted_usable ((usable_iff s).mpr hu), if_pos hu]
  · rw [classEmitted_unusable (Bool.eq_false_iff.mpr (mt (usable_iff s).mp hu)), if_neg hu]
    rfl

/-! A frame opcode where it meets the block (log entry 2). -/

/-- In the other phases the block meets no frame. -/
theorem meetFrame_elsewhere (o : Byte) (a : ReplyArm) (c : EvClass) (p : Payload) {s : State}
    (h : s.phase = .tx ∨ s.phase = .flushWait ∨ s.phase = .drainTest ∧ ¬(s.op = opXchg ∧ s.rxq = [])) :
    meetFrame o a c p s = s := by
  rcases meetFrame_cases o a c p s with ⟨hp, -⟩ | ⟨hp, ho, hq, -⟩ | ⟨hp, -⟩ | he
  · rcases hp with hp | hp <;> simp [hp] at h
  · simp [hp, ho, hq] at h
  · simp [hp] at h
  · exact he

/-- An instruction encoded as a frame has the meaning of that frame's opcode. -/
theorem exec_of_encode {i : Instr} {o : Byte} {p : Payload} (h : encode i = (frameBytes o p).toList) (s : State) :
    exec i s = .next (meetFrame o (replyArm o) (eventClass Config.startup o p.p2) p s) :=
  exec_decoded (f := frameBytes o p) (decode_eq_ok_iff.mpr h) s

/-- Settles O23: the frame is a request, is received, or meets no block. -/
theorem frameOpcodesElsewhere : Obligations.FrameOpcodesElsewhere := by
  intro i o p hi s
  rw [exec_of_encode hi s]
  refine ⟨fun hp ho hq => ?request, fun hp ho => ?rxf, fun h => ?elsewhere⟩
  case request =>
    rw [meetFrame_encodePoint _ _ _ _ s hp ho hq]
    rfl
  case rxf =>
    rw [meetFrame_received _ _ _ _ s (.inl hp)]
    exact congrArg Host.Outcome.next (endFrameRead_rxf _ _ { s with rxbuf := frameBytes o p, rxlen := 8 } hp ho)
  case elsewhere => rw [meetFrame_elsewhere _ _ _ _ h]

/-! The sequencer's rows (`43_exchange.md` rule R120). -/

theorem seqStep_idle {s : State} (h : s.phase = .idle) : seqStep s = .next s :=
  seqStep_disabled s (by simp [State.seqEnabled, h])

/-- DRN ends at the drain test that finds RXQ empty. -/
theorem seqStep_drainDone {s : State} (hp : s.phase = .drainTest) (ho : s.op ≠ opXchg) (hq : s.rxq = []) :
    seqStep s = .next (toIdle s) := by
  rw [seqStep_drainTest s hp, drainTestStep, if_pos (by simp [hq]), if_neg ho]

/-- A frame read with RXQ empty waits. -/
theorem seqStep_waits {s : State} (hp : s.phase = .rx ∨ s.phase = .drainRx) (hq : s.rxq = []) : seqStep s = .next s :=
  (seqStep_reading s hp).trans (rxStep_empty s hq)

/-- RxStep ends the read with the terminator and with the eighth byte. -/
theorem storeByte_readEnds_iff (b : Byte) (q : List Byte) (s : State) :
    (storeByte b q s).readEnds b = true ↔ b = endMarker ∨ s.rxlen = 7 := by
  have h8 : s.rxlen + 1 = 8 ↔ s.rxlen = 7 := by bv_omega
  rw [State.readEnds, Bool.or_eq_true, beq_iff_eq, beq_iff_eq, storeByte_rxlen, h8]

/-- At byte level the sequencer always sends. -/
theorem seqStep_tx_byteLevel {s : State} (hl : s.level = .byteLevel) (hp : s.phase = .tx) :
    seqStep s = .next (txStep s) :=
  seqStep_tx s hp (by simp [State.txReady, hl])

/-- The eighth TxStep of byte level, before it leaves the TX phase. -/
theorem byteSent_eighth {s : State} (hl : s.level = .byteLevel) (hi : s.idx = 7) :
    byteSent s = afterSending 8 [s.txbuf.b7] s := by
  rw [byteSent, wireTx_byteLevel hl, hi]
  rfl

/-- Settles O49: row by row, the step of the phase. -/
theorem sequencerTransitions : Obligations.SequencerTransitions := by
  intro s hl
  refine ⟨seqStep_idle, seqStep_drainTurn, fun hp hq ho => ?drainDone, fun hp hq ho => seqStep_encode hp ho hq,
    fun hp hi => ?send, fun hp hi ho => ?txf, fun hp hi ho => ?xchg, seqStep_waits, fun b q hp hq hb hlen => ?store,
    fun b q hp hq hend => ?storeLast, fun hp => ?flushed⟩
  case drainDone => exact seqStep_drainDone hp (by rw [ho]; decide) hq
  case send =>
    rw [seqStep_tx_byteLevel hl hp, txStep_more hl hi]
    rfl
  case txf =>
    have hop : s.op ≠ opXchg := by rw [ho]; decide
    rcases txStep_ways s with ⟨h7, -⟩ | ⟨-, hx, -⟩ | ⟨-, -, he⟩
    · exact absurd hi h7
    · exact absurd hx hop
    · rw [seqStep_tx_byteLevel hl hp, he, byteSent_eighth hl hi]
      rfl
  case xchg =>
    rw [seqStep_tx_byteLevel hl hp, txStep_eighth hl ho (by rw [hi]; rfl), hi]
    rfl
  case store =>
    have hends : (storeByte b q s).readEnds b = false := by
      rw [Bool.eq_false_iff, Ne, storeByte_readEnds_iff]
      rintro (h | h)
      · exact hb h
      · rw [h] at hlen
        exact absurd hlen (by decide)
    exact seqStep_store hp hq hends
  case storeLast =>
    rw [seqStep_reading s hp, rxStep_ends s b q hq ((storeByte_readEnds_iff b q s).mpr hend)]
    rfl
  case flushed => exact seqStep_flush s hp (by simp [State.txDrained, hl])

end Sys2Proof.Machine
end

section
/-!
DRN and XCHG from their issue to their end (`43_exchange.md` rules R111 to R117): a frame read as a whole, the drain
turn and the reply read it belongs to, and the request sent while the schedule still holds turns.
-/

namespace Sys2Proof.Machine

/-! A frame read left to itself, as a whole (`42_uart.md` rules R95, R96). -/

/-- A frame that a byte ends is read in as many steps as it has bytes. -/
theorem run_read_ended {s : State} (hs : s.Alone) (hp : s.phase = .rx ∨ s.phase = .drainRx) {f : List Byte}
    (hf : endedFrame f) (q : List Byte) :
    core.run f.length (afterReading [] (f ++ q) s) = .next (readEnd (afterReading f q s)) := by
  obtain ⟨g, b, rfl, hg⟩ := endedFrame_split hf
  obtain ⟨hlt, hlast⟩ := endedFrame_last hf
  have hread : core.run g.length (afterReading [] (g ++ b :: q) s) = .next (afterReading g (b :: q) s) :=
    run_reads hs hp [] g (b :: q) hg
  have hstore := storeByte_afterReading hlt b q s
  have hends : (afterReading (g ++ [b]) q s).readEnds b = true := by
    rw [(stored_afterReading _ q s).readEnds_iff (by simpa using hlt)]
    simpa using hlast
  have hstep : step (afterReading g (b :: q) s) = .next (readEnd (afterReading (g ++ [b]) q s)) :=
    hstore ▸ step_storeLast ⟨hs.byteLevel, hs.agenda, hs.later⟩ hp rfl (hstore ▸ hends)
  rw [List.length_append, List.append_assoc]
  exact run_snoc hread hstep

/-- A partial frame with nothing following takes one step more, `Timeout`. -/
theorem run_read_partial {s : State} (hs : s.Alone) (hp : s.phase = .rx ∨ s.phase = .drainRx) {f : List Byte}
    (hf : partialFrame f) :
    core.run (f.length + 1) (afterReading [] f s) = .next (readEnd { afterReading f [] s with tmo := true }) := by
  have hread := run_reads hs hp [] f [] hf
  rw [List.append_nil] at hread
  exact run_snoc hread (step_timeout (s := afterReading f [] s) ⟨hs.byteLevel, hs.agenda, hs.later⟩ hp rfl)

/-! A drain turn (`43_exchange.md` rules R111, R112). -/

/-- `s` with the frame `f` drained, `q` still queued and TMO at `m`. -/
def drained (f q : List Byte) (m : Bool) (s : State) : State :=
  State.decoded f { afterReading f q s with
    tmo := m, phase := .drainTest, evlog := s.evlog ++ [drainedEvent s.strict f] }

theorem readEnd_afterReading_drainRx {s : State} (hp : s.phase = .drainRx) (hl : s.level = .byteLevel)
    (f q : List Byte) (m : Bool) : readEnd { afterReading f q s with tmo := m } = drained f q m s := by
  rw [readEnd_drainRx (s := { afterReading f q s with tmo := m }) hp, classifyAs, emit]
  have hline (e : Event) : strobe s.level e s.line = s.line := by rw [hl]; rfl
  exact congrArg (fun l => { drained f q m s with line := l }) (hline _)

/-- `s` in a drain turn that has not timed out. -/
def inDrainTurn (s : State) : State := { s with phase := .drainRx, tmo := false }

theorem inDrainTurn_alone {s : State} (hs : s.Alone) : (inDrainTurn s).Alone := ⟨hs.byteLevel, hs.agenda, hs.later⟩

/-- The drain test that finds a byte begins a turn that has read nothing yet. -/
theorem step_drainTurn {s : State} (hs : s.Alone) (hp : s.phase = .drainTest) (hq : s.rxq ≠ []) :
    step s = .next (afterReading [] s.rxq (inDrainTurn s)) :=
  (step_alone hs (by simp [State.seqEnabled, hp])).trans (seqStep_drainTurn hp hq)

/-- A drain turn over a frame that a byte ends. -/
theorem run_drainTurn_ended {s : State} (hs : s.Alone) (hp : s.phase = .drainTest) {f q : List Byte}
    (hq : s.rxq = f ++ q) (hf : endedFrame f) : core.run (f.length + 1) s = .next (drained f q false s) := by
  have hread : core.run f.length (afterReading [] s.rxq (inDrainTurn s)) =
      .next (readEnd (afterReading f q (inDrainTurn s))) := by
    rw [hq]
    exact run_read_ended (inDrainTurn_alone hs) (.inr rfl) hf q
  rw [run_succ (step_drainTurn hs hp (by simp [hq, endedFrame_ne_nil hf])), hread]
  exact congrArg Host.Outcome.next (readEnd_afterReading_drainRx (s := inDrainTurn s) rfl hs.byteLevel f q false)

/-- A drain turn over a partial frame with nothing following. -/
theorem run_drainTurn_partial {s : State} (hs : s.Alone) (hp : s.phase = .drainTest) (hq : s.rxq ≠ [])
    (hf : partialFrame s.rxq) : core.run (s.rxq.length + 2) s = .next (drained s.rxq [] true s) := by
  rw [run_succ (step_drainTurn hs hp hq), run_read_partial (inDrainTurn_alone hs) (.inr rfl) hf]
  exact congrArg Host.Outcome.next (readEnd_afterReading_drainRx (s := inDrainTurn s) rfl hs.byteLevel s.rxq [] true)

/-! DRN (`43_exchange.md` rule R113). -/

theorem step_issueDrn {s : State} (hp : s.phase = .idle) (ha : s.agenda = [.hostWrite 0x00 0x05]) :
    step s = .next (beginDrn s.lastTurnTaken) :=
  step_issue ha hp fun _ => rfl

/-- DRN's drain test that finds RXQ empty ends the operation. -/
theorem step_drainDone {s : State} (hs : s.Alone) (hp : s.phase = .drainTest) (ho : s.op ≠ opXchg) (hq : s.rxq = []) :
    step s = .next (toIdle s) :=
  (step_alone hs (by simp [State.seqEnabled, hp])).trans (seqStep_drainDone hp ho hq)

theorem opDrn_ne_opXchg : opDrn ≠ opXchg := by decide

/-- Settles O15: issue, one drain turn ended by `Timeout`, and the drain test that finds RXQ empty. -/
theorem drnReportsPartialFrame : Obligations.DrnReportsPartialFrame := by
  intro s hp hl ha hlater hne hf
  have hissued : (beginDrn s.lastTurnTaken).Alone := ⟨hl, rfl, hlater⟩
  have hturn : core.run (s.rxq.length + 2) (beginDrn s.lastTurnTaken) =
      .next (drained s.rxq [] true (beginDrn s.lastTurnTaken)) := run_drainTurn_partial hissued rfl hne hf
  have hdone := step_drainDone (s := drained s.rxq [] true (beginDrn s.lastTurnTaken)) ⟨hl, rfl, hlater⟩ rfl
    opDrn_ne_opXchg rfl
  have hcount : 4 + s.rxq.length = s.rxq.length + 2 + 1 + 1 := by omega
  rw [hcount, run_succ (step_issueDrn hp ha), run_snoc hturn hdone]
  exact congrArg Host.Outcome.next (toIdle_of_idle hp _)

/-- The drain reports the first frames of the queue, in order, whatever follows them (`43_exchange.md` rule R111). -/
theorem drain_reports_first (frames : List (List Byte)) (rest : List Byte) (hframes : ∀ f ∈ frames, endedFrame f)
    {s : State} (hs : s.Alone) (hp : s.phase = .drainTest) (hq : s.rxq = frames.flatten ++ rest) :
    ∃ t, core.run (frames.length + frames.flatten.length) s = .next t ∧ DrainKeeps s t ∧ t.phase = .drainTest ∧
      t.rxq = rest ∧ t.evlog = s.evlog ++ frames.map (drainedEvent s.strict) := by
  induction frames generalizing s with
  | nil => exact ⟨s, rfl, rfl, hp, hq, by simp⟩
  | cons f frames ih =>
    obtain ⟨hf, hframes⟩ := List.forall_mem_cons.mp hframes
    obtain ⟨u, hrun, hpu, hqu, hlogu⟩ :=
      drainTest_reports hs hp (rest := frames.flatten ++ rest) (hq.trans (by simp)) hf
    have hu : DrainKeeps s u := hrun.at_end
    obtain ⟨t, hrunt, ht, hpt, hqt, hlogt⟩ := ih hframes (hu.alone hs) hpu hqu
    have hcount : (f :: frames).length + (f :: frames).flatten.length =
        f.length + 1 + (frames.length + frames.flatten.length) := by
      simp only [List.length_cons, List.flatten_cons, List.length_append]
      omega
    refine ⟨t, ?_, hu.trans ht, hpt, hqt, ?_⟩
    · rw [hcount, hrun.run_add, hrunt]
    · rw [hlogt, hlogu, hu.strict]
      simp

/-- DRN's last frame is drained and the next drain test ends the operation. -/
theorem run_drn_last {s : State} (hs : s.Alone) (hp : s.phase = .drainTest) (ho : s.op ≠ opXchg)
    (hf : endedFrame s.rxq) : core.run (s.rxq.length + 2) s = .next (toIdle (drained s.rxq [] false s)) :=
  run_snoc (run_drainTurn_ended hs hp (List.append_nil _).symm hf)
    (step_drainDone (s := drained s.rxq [] false s) ⟨hs.byteLevel, hs.agenda, hs.later⟩ rfl ho rfl)

/-- Settles O14: every frame before the last is reported, then the last, whose fields stay in the registers. -/
theorem drnReportsEveryQueuedFrame : Obligations.DrnReportsEveryQueuedFrame := by
  intro s frames hp hl ha hlater hframes hq
  have hissue := step_issueDrn hp ha
  have hissued : (beginDrn s.lastTurnTaken).Alone := ⟨hl, rfl, hlater⟩
  obtain rfl | ⟨init, f, rfl⟩ := frames.eq_nil_or_concat'
  case inl =>
    have hdone := step_drainDone hissued rfl opDrn_ne_opXchg hq
    have hend : toIdle (beginDrn s.lastTurnTaken) = { s with op := 0, agenda := [] } := toIdle_of_idle hp _
    refine ⟨_, (run_succ hissue 1).trans (run_succ hdone 0), rfl, rfl, hq, ?_, rfl, rfl, rfl, rfl, rfl, fun _ => hend,
      nofun⟩
    simp [beginDrn, State.lastTurnTaken]
  case inr =>
    have hf : endedFrame f := hframes f (by simp)
    have hq' : s.rxq = init.flatten ++ f := by simpa using hq
    obtain ⟨u, hrun, hu, hpu, rfl, hlog⟩ :=
      drain_reports_first init f (fun g hg => hframes g (by simp [hg])) hissued rfl hq'
    have hop : u.op = opDrn := hu.field State.op
    have hlast := run_drn_last (hu.alone hissued) hpu (hop ▸ opDrn_ne_opXchg) hf
    have hcount : 2 + (init ++ [u.rxq]).length + (init ++ [u.rxq]).flatten.length =
        init.length + init.flatten.length + (u.rxq.length + 2) + 1 := by
      simp only [List.length_append, List.length_singleton, List.flatten_append, List.flatten_singleton]
      omega
    refine ⟨toIdle (drained u.rxq [] false u), ?_, rfl, rfl, rfl, ?_, hu.field State.txwire, hu.field State.txbuf,
      hu.field State.result, hu.field State.rkind, hu.field State.err, by simp, fun g hg => ?_⟩
    · rw [hcount, run_succ hissue]
      exact (run_then hrun _).trans hlast
    · change u.evlog ++ [drainedEvent u.strict u.rxq] = _
      rw [hlog, hu.strict]
      simp [beginDrn, State.lastTurnTaken]
    · obtain rfl : u.rxq = g := by simpa using hg
      exact ⟨rfl, rfl, rfl, rfl, rfl, rfl, rfl, rfl, rfl, rfl⟩

/-! XCHG's reply read (`43_exchange.md` rules R115, R116). -/

/-- The arm a reply of the bytes `bs` takes. -/
def replyArmOf (strict : Bool) (bs : List Byte) : ReplyArm :=
  if !strict || (dstatOf (fillBuffer bs) (BitVec.ofNat 4 bs.length)).getLsbD 4 then replyArm (fillBuffer bs).b1
  else .falsy

/-- RESULT and RKIND of a reply are its arm's. -/
theorem replyResult_eq (strict : Bool) (bs : List Byte) :
    replyResult strict bs =
      ((replyArmOf strict bs).result (fillBuffer bs).b4, (replyArmOf strict bs).kind) := by
  rw [replyResult, replyArmOf, replyArm_eq]
  split_ifs <;> rfl

/-- What XCHG leaves when its reply read ends, with the bytes `f` read, `q` still queued and TMO at `m`. -/
theorem readEnd_afterReading_reply {s : State} (hp : s.phase = .rx) (ho : s.op = opXchg) (f q : List Byte) (m : Bool) :
    readEnd { afterReading f q s with tmo := m } =
      toIdle (State.decoded f { afterReading f q s with
        tmo := m, result := (replyResult s.strict f).1, rkind := (replyResult s.strict f).2 }) := by
  rw [replyResult_eq]
  exact endFrameRead_reply _ _ { afterReading f q s with tmo := m } hp ho

/-! XCHG while the schedule still holds turns (log entry 1). -/

/-- `s` with the turns `ts` on its agenda. -/
def State.withAgenda (ts : List Turn) (s : State) : State := { s with agenda := ts }

/-- The first turn of an agenda is taken in the state with the others left. -/
theorem step_withAgenda (t : Turn) (ts : List Turn) (s : State) :
    step (s.withAgenda (t :: ts)) = takeTurn t (s.withAgenda ts) :=
  step_turn _ t ts rfl

/-- A scheduled turn of the TX phase. -/
theorem step_txTurn {s : State} (hl : s.level = .byteLevel) (hp : s.phase = .tx) (ts : List Turn) :
    step (s.withAgenda (.seq :: ts)) = .next (txStep (s.withAgenda ts)) :=
  (step_withAgenda .seq ts s).trans (seqStep_tx_byteLevel hl hp)

/-- XCHG's TX phase takes as many scheduled turns as bytes are left, and begins the reply read. -/
theorem run_txPhase_turns (ts : List Turn) (k : Nat) {s : State} (hl : s.level = .byteLevel) (hp : s.phase = .tx)
    (ho : s.op = opXchg) (hk : s.idx.toNat + k = 7) :
    core.run (k + 1) (s.withAgenda (List.replicate (k + 1) .seq ++ ts)) =
      .next (beginReply (afterSending 8 (s.txbuf.toList.drop s.idx.toNat) (s.withAgenda ts))) := by
  induction k generalizing s with
  | zero =>
    have hlast : txStep (s.withAgenda ts) = beginReply (afterSending 8 [s.txbuf.get s.idx.toNat] (s.withAgenda ts)) :=
      txStep_eighth hl ho hk
    have hrest : s.txbuf.toList.drop (s.idx.toNat + 1) = [] := by
      rw [show s.idx.toNat = 7 from hk]
      rfl
    rw [toList_drop _ _ (by omega), hrest, ← hlast]
    exact run_succ (step_txTurn hl hp ts) 0
  | succ k ih =>
    have hidx : (s.idx + 1).toNat = s.idx.toNat + 1 := by bv_omega
    have hmore (rest : List Turn) : txStep (s.withAgenda rest) =
        (afterSending (s.idx + 1) [s.txbuf.get s.idx.toNat] s).withAgenda rest :=
      txStep_more (s := s.withAgenda rest) hl (show s.idx.toNat < 7 by omega)
    have hnext := ih (s := afterSending (s.idx + 1) [s.txbuf.get s.idx.toNat] s) hl hp ho
      (show (s.idx + 1).toNat + k = 7 by omega)
    have hstep := step_txTurn hl hp (List.replicate (k + 1) .seq ++ ts)
    rw [hmore] at hstep
    refine (run_succ hstep (k + 1)).trans (hnext.trans ?_)
    change Host.Outcome.next (beginReply (afterSending 8 (s.txbuf.toList.drop (s.idx + 1).toNat)
      (afterSending (s.idx + 1) [s.txbuf.get s.idx.toNat] (s.withAgenda ts)))) = _
    rw [afterSending_twice, hidx, toList_drop s.txbuf s.idx.toNat (by omega)]
    rfl

/-- `s` with the bytes `bs` arrived. -/
def State.arrived (bs : List Byte) (s : State) : State := { s with rxq := s.rxq ++ bs }

/-- Scheduled arrivals fill RXQ in order while it has room. -/
theorem run_arrivals (bs : List Byte) {s : State} (hl : s.level = .byteLevel)
    (hroom : s.rxq.length + bs.length ≤ Config.rxqDepth) :
    core.run bs.length (s.withAgenda (bs.map .arrive)) = .next ((s.arrived bs).withAgenda []) := by
  induction bs generalizing s with
  | nil =>
    rw [State.arrived, List.append_nil]
    rfl
  | cons b bs ih =>
    rw [List.length_cons] at hroom
    have harrive : arrive b (s.withAgenda (bs.map .arrive)) = (s.arrived [b]).withAgenda (bs.map .arrive) :=
      arrive_queued b (s.withAgenda (bs.map .arrive)) (show s.rxq.length < Config.rxqDepth by omega)
    have hstep : step (s.withAgenda (.arrive b :: bs.map .arrive)) = .next (arrive b (s.withAgenda (bs.map .arrive))) :=
      (step_withAgenda _ _ s).trans (linkTurn_byteLevel b 0 _ hl)
    have hlen : (s.arrived [b]).rxq.length + bs.length ≤ Config.rxqDepth := by
      simp only [State.arrived, List.length_append, List.length_singleton]
      omega
    rw [harrive] at hstep
    refine (run_succ hstep bs.length).trans ((ih (s := s.arrived [b]) hl hlen).trans ?_)
    simp [State.arrived]

/-- XCHG issued in `s`, its request sent and its reply read begun, with no turns left on the agenda. -/
def awaitingReply (s : State) : State := (requestSent (beginXchg s)).withAgenda []

/-- XCHG, issued with RXQ empty, has sent its request after nine turns of the sequencer, and the bytes that then arrive
wait for the reply read. -/
theorem xchg_receives {s : State} {f : List Byte} (hp : s.phase = .idle) (hl : s.level = .byteLevel) (hq : s.rxq = [])
    (hlen : f.length ≤ 8) (ha : s.agenda = .hostWrite 0x00 0x06 :: (List.replicate 9 .seq ++ f.map .arrive)) :
    core.run (10 + f.length) s = .next (afterReading [] f (awaitingReply s)) := by
  have hissue : step s = .next ((beginXchg s).withAgenda (List.replicate 9 .seq ++ f.map .arrive)) :=
    (step_turn s _ _ ha).trans (congrArg Host.Outcome.next (issue_idle beginXchg _ hp))
  have hencode : step ((beginXchg s).withAgenda (List.replicate 9 .seq ++ f.map .arrive)) =
      .next ((enterTx (encodeArgs (beginXchg s))).withAgenda (List.replicate 8 .seq ++ f.map .arrive)) :=
    (step_withAgenda .seq _ _).trans (seqStep_encode rfl rfl hq)
  have hsend : core.run 8 ((enterTx (encodeArgs (beginXchg s))).withAgenda (List.replicate 8 .seq ++ f.map .arrive)) =
      .next ((requestSent (beginXchg s)).withAgenda (f.map .arrive)) :=
    run_txPhase_turns (f.map .arrive) 7 hl rfl rfl rfl
  have hrequest : core.run 10 s = .next ((requestSent (beginXchg s)).withAgenda (f.map .arrive)) :=
    (run_succ hissue 9).trans ((run_succ hencode 8).trans hsend)
  have hroom : (requestSent (beginXchg s)).rxq.length + f.length ≤ Config.rxqDepth := by
    have hempty : (requestSent (beginXchg s)).rxq = [] := hq
    have hdepth := eight_le_rxqDepth
    rw [hempty, List.length_nil]
    omega
  rw [run_then hrequest, run_arrivals f (s := requestSent (beginXchg s)) hl hroom]
  have hqueue : (requestSent (beginXchg s)).rxq ++ f = f := congrArg (· ++ f) hq
  exact congrArg (fun q => Host.Outcome.next { awaitingReply s with rxq := q }) hqueue

theorem awaitingReply_alone {s : State} (hl : s.level = .byteLevel) (hlater : s.later = .quiet) :
    (awaitingReply s).Alone := ⟨hl, rfl, hlater⟩

/-- Settles O16: the request is sent, the reply arrives and is read to its last byte. -/
theorem xchgTurnsReplyIntoResult : Obligations.XchgTurnsReplyIntoResult := by
  intro s f hp hl hq hf ha hlater
  have hlen : f.length ≤ 8 := hf.1
  have hread := run_read_ended (awaitingReply_alone hl hlater) (.inl rfl) hf []
  rw [List.append_nil] at hread
  have hcount : 10 + 2 * f.length = 10 + f.length + f.length := by omega
  rw [hcount, run_then (xchg_receives hp hl hq hlen ha), hread, ← hq]
  exact congrArg Host.Outcome.next
    ((readEnd_afterReading_reply (s := awaitingReply s) rfl rfl f s.rxq false).trans (toIdle_of_idle hp _))

/-- Settles O17: the request is sent, what arrives of the reply is read, and `Timeout` ends the read. -/
theorem xchgTimesOut : Obligations.XchgTimesOut := by
  intro s f hp hl hq hf ha hlater
  have hlen : f.length ≤ 8 := hf.1.le
  have hread := run_read_partial (awaitingReply_alone hl hlater) (.inl rfl) hf
  have hcount : 11 + 2 * f.length = 10 + f.length + (f.length + 1) := by omega
  rw [hcount, run_then (xchg_receives hp hl hq hlen ha), hread, ← hq]
  exact congrArg Host.Outcome.next
    ((readEnd_afterReading_reply (s := awaitingReply s) rfl rfl f s.rxq true).trans (toIdle_of_idle hp _))

end Sys2Proof.Machine
end

section
/-!
Every operation ends (`43_exchange.md` rule R121): a finite schedule is used up, and left to itself at byte level the
block has less to do after every step.
-/

namespace Sys2Proof.Machine

/-! Every turn of the schedule is answered. -/

theorem frameReadEnds_answers (s : State) : ∃ t, frameReadEnds s = .next t := by
  unfold frameReadEnds
  split
  · exact exec_answers _ s
  · exact ⟨_, rfl⟩

theorem encodeRequest_answers (s : State) : ∃ t, encodeRequest s = .next t := by
  unfold encodeRequest
  split
  · exact exec_answers _ s
  · exact ⟨_, rfl⟩

theorem drainTestStep_answers (s : State) : ∃ t, drainTestStep s = .next t := by
  unfold drainTestStep
  split_ifs
  · exact encodeRequest_answers s
  · exact ⟨_, rfl⟩
  · exact ⟨_, rfl⟩

theorem rxStep_answers (s : State) : ∃ t, rxStep s = .next t := by
  unfold rxStep
  split
  · exact ⟨_, rfl⟩
  · split
    · exact frameReadEnds_answers _
    · exact ⟨_, rfl⟩

/-- The sequencer's micro-step neither faults nor is refused. -/
theorem seqStep_answers (s : State) : ∃ t, seqStep s = .next t := by
  unfold seqStep
  split
  · split
    · exact ⟨_, rfl⟩
    · exact drainTestStep_answers s
    · exact rxStep_answers s
    · exact rxStep_answers s
    · exact ⟨_, rfl⟩
    · exact ⟨_, rfl⟩
  · exact ⟨_, rfl⟩

theorem timerTurn_answers (s : State) : ∃ t, timerTurn s = .next t := by
  unfold timerTurn
  split
  · exact frameReadEnds_answers _
  · exact ⟨_, rfl⟩

theorem linkTurn_answers (b : Byte) (c : BitVec 3) (s : State) : ∃ t, linkTurn b c s = .next t := by
  unfold linkTurn
  split <;> exact ⟨_, rfl⟩

/-- The turns in which only the device, the sequencer, the timer or a reading host acts. -/
def Harmless (t : Turn) : Prop :=
  t = .seq ∨ t = .timeout ∨ (∃ b, t = .arrive b) ∨ ∃ n, n < 0x40 ∧ t = .hostRead n

theorem takeTurn_harmless_answers {t : Turn} (ht : Harmless t) (s : State) : ∃ u, takeTurn t s = .next u := by
  rcases ht with rfl | rfl | ⟨b, rfl⟩ | ⟨n, hn, rfl⟩
  · exact seqStep_answers s
  · exact timerTurn_answers s
  · exact linkTurn_answers b 0 s
  · exact ⟨_, hostRead_in n s hn⟩

/-! No turn touches the model's own fields (log entries 1, 7). -/

/-- The level at which the run is told, and the turns to come. -/
def State.modelFields (s : State) : Level × List Turn × Later := (s.level, s.agenda, s.later)

theorem readEnd_modelFields (s : State) : (readEnd s).modelFields = s.modelFields := by
  rw [readEnd_frame]
  rfl

theorem moves_modelFields {t : Turn} {s u : State} (h : Moves t s u) : u.modelFields = s.modelFields := by
  cases h with
  | storeLast | timeout => exact readEnd_modelFields _
  | clockTimeout rx =>
    refine (readEnd_modelFields (timedOutAt rx s)).trans ?_
    rw [timedOutAt_frame]
    rfl
  | clock rx =>
    rw [lineTick_frame]
    rfl
  | send =>
    rw [txStep_frame]
    rfl
  | idleWrite =>
    rw [writeIdle_frame]
    rfl
  | _ => rfl

/-! What is left to do (`42_uart.md` rule R99). -/

/-- A bound on the steps the block takes by itself, at byte level, until it is idle. A queued byte counts three in the
drain, for its RxStep and for beginning and ending the turn that reads it; the request counts its bytes; the reply read
counts the queued bytes and `Timeout`. -/
def State.work (s : State) : Nat :=
  match s.phase with
  | .idle => 0
  | .flushWait => 1
  | .rx => s.rxq.length + 1
  | .tx => s.rxq.length + 10 - s.idx.toNat
  | .drainTest => 3 * s.rxq.length + 12
  | .drainRx => if s.rxq = [] then 13 else 3 * s.rxq.length + 11

theorem work_idle {s : State} (h : s.phase = .idle) : s.work = 0 := by simp [State.work, h]
theorem work_flushWait {s : State} (h : s.phase = .flushWait) : s.work = 1 := by simp [State.work, h]
theorem work_rx {s : State} (h : s.phase = .rx) : s.work = s.rxq.length + 1 := by simp [State.work, h]
theorem work_tx {s : State} (h : s.phase = .tx) : s.work = s.rxq.length + 10 - s.idx.toNat := by simp [State.work, h]
theorem work_drainTest {s : State} (h : s.phase = .drainTest) : s.work = 3 * s.rxq.length + 12 := by
  simp [State.work, h]
theorem work_drainRx {s : State} (h : s.phase = .drainRx) :
    s.work = if s.rxq = [] then 13 else 3 * s.rxq.length + 11 := by
  simp [State.work, h]

/-- In a drain turn the bound is that of the queued bytes and a little more. -/
theorem work_drainRx_le {s : State} (h : s.phase = .drainRx) : s.work ≤ 3 * s.rxq.length + 13 := by
  rw [work_drainRx h]
  split_ifs <;> omega

/-- After the end of a frame read. -/
theorem work_readEnd {s : State} (hp : s.phase = .rx ∨ s.phase = .drainRx) :
    (readEnd s).work = if s.phase = .rx then 0 else 3 * s.rxq.length + 12 := by
  have hphase := readEnd_phase hp
  rcases hp with hp | hp <;> rw [hp] at hphase
  · rw [work_idle hphase, if_pos hp]
  · rw [work_drainTest hphase, readEnd_rxq, if_neg (by simp [hp])]

/-- A step of a frame read left to itself stores a byte or ends the read. -/
theorem step_reading_work {s : State} (hs : s.Alone) (hp : s.phase = .rx ∨ s.phase = .drainRx) :
    ∃ t, step s = .next t ∧ t.work < s.work := by
  cases hq : s.rxq with
  | nil =>
    refine ⟨_, step_timeout hs hp hq, ?_⟩
    rw [work_readEnd (s := { s with tmo := true }) hp]
    rcases hp with hp | hp
    · simp [work_rx hp, hp]
    · simp [work_drainRx hp, hp, hq]
  | cons b q =>
    cases he : (storeByte b q s).readEnds b with
    | true =>
      refine ⟨_, step_storeLast hs hp hq he, ?_⟩
      rw [work_readEnd (s := storeByte b q s) hp]
      rcases hp with hp | hp
      · simp [work_rx hp, hp]
      · rw [work_drainRx hp, if_neg (by simp [hp]), if_neg (by simp [hq]), hq, List.length_cons]
        change 3 * q.length + 12 < _
        omega
    | false =>
      refine ⟨_, step_store hs hp hq he, ?_⟩
      rcases hp with hp | hp
      · rw [work_rx (s := storeByte b q s) hp, work_rx hp, hq]
        simp
      · have hle := work_drainRx_le (s := storeByte b q s) hp
        rw [work_drainRx hp, if_neg (by simp [hq]), hq, List.length_cons]
        rw [storeByte_rxq] at hle
        omega

/-- A step of a drain test left to itself. -/
theorem step_drainTest_work {s : State} (hs : s.Alone) (hp : s.phase = .drainTest) :
    ∃ t, step s = .next t ∧ t.work < s.work := by
  have hstep := step_alone hs (by simp [State.seqEnabled, hp])
  rw [work_drainTest hp]
  by_cases hq : s.rxq = []
  · by_cases ho : s.op = opXchg
    · refine ⟨_, hstep.trans (seqStep_encode hp ho hq), ?_⟩
      rw [work_tx rfl]
      simp [hq]
    · refine ⟨_, hstep.trans (seqStep_drainDone hp ho hq), ?_⟩
      rw [work_idle rfl]
      omega
  · refine ⟨_, hstep.trans (seqStep_drainTurn hp hq), ?_⟩
    rw [work_drainRx rfl, if_neg (by simpa using hq)]
    simp

/-- A step of a TX phase left to itself. -/
theorem step_tx_work {s : State} (hs : s.Alone) (hp : s.phase = .tx) (hi : s.idx.toNat < 8) :
    ∃ t, step s = .next t ∧ t.work < s.work := by
  refine ⟨_, step_tx hs hp, ?_⟩
  rw [work_tx hp]
  rcases txStep_ways s with ⟨h7, he⟩ | ⟨-, -, he⟩ | ⟨-, -, he⟩ <;> rw [he]
  · have hidx : (byteSent s).idx.toNat = s.idx.toNat + 1 := by
      change (s.idx + 1).toNat = _
      bv_omega
    rw [work_tx (s := byteSent s) hp, hidx]
    change s.rxq.length + 10 - (s.idx.toNat + 1) < _
    omega
  · rw [work_rx rfl]
    change s.rxq.length + 1 < _
    omega
  · rw [work_idle rfl]
    omega

/-- Left to itself at byte level, a busy block has less to do after its step. -/
theorem step_alone_work {s : State} (hinv : s.Inv) (hs : s.Alone) (hp : s.phase ≠ .idle) :
    ∃ t, step s = .next t ∧ t.work < s.work := by
  cases hphase : s.phase with
  | idle => exact absurd hphase hp
  | drainTest => exact step_drainTest_work hs hphase
  | drainRx => exact step_reading_work hs (.inr hphase)
  | rx => exact step_reading_work hs (.inl hphase)
  | tx =>
    obtain ⟨-, hi⟩ := (idxInRange_iff s).mp hinv.idxInRange
    exact step_tx_work hs hphase (hi hphase)
  | flushWait =>
    have hdrained : s.txDrained = true := by simp [State.txDrained, hs.byteLevel]
    have henabled : s.seqEnabled = true := by simp [State.seqEnabled, hphase, hdrained]
    refine ⟨_, (step_alone hs henabled).trans (seqStep_flush s hphase hdrained), ?_⟩
    rw [work_flushWait hphase, work_idle rfl]
    omega

/-! To idle. -/

/-- A step of a block left to itself leaves it so. -/
theorem alone_step {s t : State} (hs : s.Alone) (h : step s = .next t) : t.Alone := by
  have hfields := moves_modelFields (moves_step h)
  rw [(turnSpent_quiet s hs.agenda hs.later).2] at hfields
  simp only [State.modelFields, Prod.mk.injEq] at hfields
  obtain ⟨hl, ha, hlater⟩ := hfields
  exact ⟨hl.trans hs.byteLevel, ha.trans hs.agenda, hlater.trans hs.later⟩

/-- Left to itself at byte level, the block comes to idle. -/
theorem alone_comes_to_idle {s : State} (hinv : s.Inv) (hs : s.Alone) :
    ∃ k t, core.run k s = .next t ∧ t.phase = .idle := by
  by_cases hp : s.phase = .idle
  · exact ⟨0, s, rfl, hp⟩
  · obtain ⟨u, hstep, hless⟩ := step_alone_work hinv hs hp
    obtain ⟨k, t, hrun, ht⟩ := alone_comes_to_idle (everyStepKeepsInvariant s u hinv hstep) (alone_step hs hstep)
    exact ⟨k + 1, t, (run_succ hstep k).trans hrun, ht⟩
termination_by s.work

/-- A block whose agenda holds harmless turns only, and after which nothing comes, comes to idle. -/
theorem agenda_comes_to_idle (ts : List Turn) (hts : ∀ t ∈ ts, Harmless t) {s : State} (hinv : s.Inv)
    (hl : s.level = .byteLevel) (ha : s.agenda = ts) (hlater : s.later = .quiet) :
    ∃ k t, core.run k s = .next t ∧ t.phase = .idle := by
  induction ts generalizing s with
  | nil => exact alone_comes_to_idle hinv ⟨hl, ha, hlater⟩
  | cons t ts ih =>
    obtain ⟨ht, hts⟩ := List.forall_mem_cons.mp hts
    obtain ⟨u, hturn⟩ := takeTurn_harmless_answers ht { s with agenda := ts }
    have hstep : step s = .next u := (step_turn s t ts ha).trans hturn
    have hfields := moves_modelFields (moves_takeTurn hturn)
    simp only [State.modelFields, Prod.mk.injEq] at hfields
    obtain ⟨hlu, hau, hlateru⟩ := hfields
    obtain ⟨k, v, hrun, hv⟩ :=
      ih hts (everyStepKeepsInvariant s u hinv hstep) (hlu.trans hl) hau (hlateru.trans hlater)
    exact ⟨k + 1, v, (run_succ hstep k).trans hrun, hv⟩

/-- Settles O53: the schedule is used up, and then each step leaves less to do. -/
theorem everyOperationEnds : Obligations.EveryOperationEnds := fun s hinv hl hlater hts =>
  agenda_comes_to_idle s.agenda hts hinv hl rfl hlater

end Sys2Proof.Machine
end

section
/-!
The control opcodes where they meet the block (`44_control_opcodes.md` rule R148; log entries 2, 20, 29): first the
meaning of any frame opcode as an operand of ENC, as XCHG's reply and drained, told by the bytes of its frame; then what
the opcodes that no step singles out have in common.
-/

namespace Sys2Proof.Machine

/-! A frame opcode of any kind. -/

/-- While the block is idle the frame is built as a request. -/
theorem exec_frame_idle {i : Instr} {o : Byte} {p : Payload} (h : encode i = (frameBytes o p).toList) {s : State}
    (hp : s.phase = .idle) : exec i s = .next { s with txbuf := mkFrame o p.fb p.p1 p.p2 } := by
  rw [exec_of_encode h, meetFrame_idle _ _ _ _ s hp]
  rfl

/-- As XCHG's reply the frame is decoded and interpreted. -/
theorem exec_frame_reply {i : Instr} {o : Byte} {p : Payload} (h : encode i = (frameBytes o p).toList) {s : State}
    (hp : s.phase = .rx) (ho : s.op = opXchg) :
    exec i s = .next (State.decoded (frameBytes o p).toList { s with
      rxbuf := frameBytes o p, rxlen := 8, phase := .idle, op := 0
      result := (replyResult s.strict (frameBytes o p).toList).1
      rkind := (replyResult s.strict (frameBytes o p).toList).2 }) := by
  rw [exec_of_encode h, meetFrame_received _ _ _ _ s (.inl hp),
    endFrameRead_reply _ _ { s with rxbuf := frameBytes o p, rxlen := 8 } hp ho, replyResult_eq]
  rfl

/-- Drained, the frame is decoded and reported. -/
theorem exec_frame_drained {i : Instr} {o : Byte} {p : Payload} (h : encode i = (frameBytes o p).toList) {s : State}
    (hp : s.phase = .drainRx) :
    exec i s = .next (State.decoded (frameBytes o p).toList { s with
      rxbuf := frameBytes o p, rxlen := 8, phase := .drainTest
      evlog := s.evlog ++ [drainedEvent s.strict (frameBytes o p).toList]
      line := strobe s.level (drainedEvent s.strict (frameBytes o p).toList) s.line }) := by
  rw [exec_of_encode h, meetFrame_received _ _ _ _ s (.inr hp),
    endFrameRead_drainRx _ _ { s with rxbuf := frameBytes o p, rxlen := 8 } hp]
  rfl

/-! An opcode that the interpret and the classify step do not single out (`43_exchange.md` rules R112, R116). -/

/-- The opcode is no query, no ACK or NAK and no notification. -/
def unrecognised (o : Byte) : Bool := !(isQuery o || isNotif o || o == Opcode.nak || o == Opcode.ack)

theorem unrecognised_iff (o : Byte) :
    unrecognised o = true ↔ isQuery o = false ∧ isNotif o = false ∧ o ≠ Opcode.nak ∧ o ≠ Opcode.ack := by
  simp [unrecognised, and_assoc]

theorem replyArm_unrecognised {o : Byte} (h : unrecognised o = true) : replyArm o = .falsy := by
  obtain ⟨hquery, -, hnak, hack⟩ := (unrecognised_iff o).mp h
  rw [replyArm, if_neg (Bool.eq_false_iff.mp hquery), if_neg hnak, if_neg hack]

theorem eventClass_unrecognised {o : Byte} (h : unrecognised o = true) (c : StartupCodes) (p2 : Byte) :
    eventClass c o p2 = .other := by
  obtain ⟨-, hnotif, -, -⟩ := (unrecognised_iff o).mp h
  simp only [isNotif, Bool.or_eq_false_iff, beq_eq_false_iff_ne] at hnotif
  obtain ⟨⟨⟨⟨hinsert, hremoved⟩, husb⟩, husd⟩, hstartup⟩ := hnotif
  rw [eventClass, if_neg hinsert, if_neg hremoved, if_neg husb, if_neg husd, if_neg hstartup]

/-- As a reply it gives logical false, whether or not the frame is usable. -/
theorem replyResult_unrecognised {o : Byte} (h : unrecognised o = true) (strict : Bool) (p : Payload) :
    replyResult strict (frameBytes o p).toList = (0x00, .noReply) := by
  have harm : replyArmOf strict (frameBytes o p).toList = .falsy := by
    change (if _ then replyArm o else .falsy) = _
    rw [replyArm_unrecognised h, ite_self]
  rw [replyResult_eq, harm]
  rfl

/-- Drained it is EV_OTHER, whether or not the frame is usable. -/
theorem drainedEvent_unrecognised {o : Byte} (h : unrecognised o = true) (strict : Bool) (p : Payload) :
    drainedEvent strict (frameBytes o p).toList = ⟨.other, o, p.p2, dstatOf (frameBytes o p) 8⟩ := by
  change Event.mk (if _ then eventClass Config.startup o p.p2 else .other) o p.p2 (dstatOf (frameBytes o p) 8) = _
  rw [eventClass_unrecognised h, ite_self]

/-! The control opcodes (`44_control_opcodes.md` rule R148). -/

/-- The control opcodes are the rows of the frame table that no step singles out. -/
def controlRows : List (Byte × (Payload → Instr)) := frameRows.filter fun r => unrecognised r.1

/-- A control opcode's instruction encodes as its frame, and its opcode is singled out by no step. -/
theorem control_row {o : Byte} {i : Instr} {p : Payload} (h : (o, i) ∈ controlRows.map fun r => (r.1, r.2 p)) :
    encode i = (frameBytes o p).toList ∧ unrecognised o = true := by
  obtain ⟨r, hr, heq⟩ := List.mem_map.mp h
  obtain ⟨rfl, rfl⟩ := Prod.mk.inj heq
  obtain ⟨hrow, hplain⟩ := List.mem_filter.mp hr
  refine ⟨?_, hplain⟩
  have hop := (frameRows_fit r hrow p State.reset).1
  simp only [encode, hop]

/-- Settles O19: a control opcode is a request like any frame's, and neither a reply nor an event of its own. -/
theorem controlOpcodes : Obligations.ControlOpcodes := by
  intro p o i hmem s
  obtain ⟨henc, hplain⟩ := control_row (p := p) hmem
  obtain ⟨hrequest, -, -⟩ := frameOpcodesElsewhere i o p henc s
  refine ⟨exec_frame_idle henc, hrequest, fun hp ho => ?reply, fun hp => ?drained⟩
  case reply =>
    rw [exec_frame_reply henc hp ho, replyResult_unrecognised hplain]
  case drained =>
    rw [exec_frame_drained henc hp, drainedEvent_unrecognised hplain]

end Sys2Proof.Machine
end

section
/-!
The query, reply and notification opcodes where they meet the block (`45_query_reply_notify_opcodes.md` rules R160 to
R176; log entries 2, 20, 29): first what a usable frame of any opcode gives as XCHG's reply and drained, then what each
family's opcodes give.
-/

namespace Sys2Proof.Machine

/-! A received frame, by the arm and the class its opcode selects (`43_exchange.md` rules R112, R116). -/

/-- A frame is usable in compat mode, and in strict mode if it is valid. -/
theorem usable_frameBytes_iff (strict : Bool) (o : Byte) (p : Payload) :
    (!strict || (dstatOf (frameBytes o p) 8).getLsbD 4) = true ↔
      strict = false ∨ frameValid (frameBytes o p) 8 = true := by
  obtain ⟨-, -, -, -, hvalid⟩ := dstatOf_bits (frameBytes o p) 8
  rw [hvalid, Bool.or_eq_true, Bool.not_eq_true']

theorem replyArmOf_frameBytes (strict : Bool) (o : Byte) (p : Payload) :
    replyArmOf strict (frameBytes o p).toList =
      if strict = false ∨ frameValid (frameBytes o p) 8 = true then replyArm o else .falsy :=
  if_congr (usable_frameBytes_iff strict o p) rfl rfl

theorem drainedEvent_frameBytes (strict : Bool) (o : Byte) (p : Payload) :
    drainedEvent strict (frameBytes o p).toList =
      ⟨if strict = false ∨ frameValid (frameBytes o p) 8 = true then eventClass Config.startup o p.p2 else .other,
        o, p.p2, dstatOf (frameBytes o p) 8⟩ :=
  congrArg (Event.mk · o p.p2 (dstatOf (frameBytes o p) 8)) (if_congr (usable_frameBytes_iff strict o p) rfl rfl)

section
variable {i : Instr} {o : Byte} {p : Payload} (h : encode i = (frameBytes o p).toList) {s : State}
include h

/-- As XCHG's reply a usable frame gives what its opcode's arm gives. -/
theorem exec_usable_reply (hp : s.phase = .rx) (ho : s.op = opXchg)
    (hu : s.strict = false ∨ frameValid (frameBytes o p) 8 = true) :
    exec i s = .next (State.decoded (frameBytes o p).toList { s with
      rxbuf := frameBytes o p, rxlen := 8, result := (replyArm o).result p.p2, rkind := (replyArm o).kind
      phase := .idle, op := 0 }) := by
  rw [exec_frame_reply h hp ho, replyResult_eq, replyArmOf_frameBytes, if_pos hu]
  rfl

/-- As XCHG's reply a frame whose opcode selects the last arm gives logical false, usable or not. -/
theorem exec_falsy_reply (harm : replyArm o = .falsy) (hp : s.phase = .rx) (ho : s.op = opXchg) :
    exec i s = .next (State.decoded (frameBytes o p).toList { s with
      rxbuf := frameBytes o p, rxlen := 8, result := 0x00, rkind := .noReply, phase := .idle, op := 0 }) := by
  rw [exec_frame_reply h hp ho, replyResult_eq, replyArmOf_frameBytes, harm, ite_self]
  rfl

/-- Drained, a usable frame is reported as its opcode's class. -/
theorem exec_usable_drained (hp : s.phase = .drainRx)
    (hu : s.strict = false ∨ frameValid (frameBytes o p) 8 = true) :
    exec i s = .next (State.decoded (frameBytes o p).toList { s with
      rxbuf := frameBytes o p, rxlen := 8, phase := .drainTest
      evlog := s.evlog ++ [⟨eventClass Config.startup o p.p2, o, p.p2, dstatOf (frameBytes o p) 8⟩]
      line := strobe s.level ⟨eventClass Config.startup o p.p2, o, p.p2, dstatOf (frameBytes o p) 8⟩ s.line }) := by
  rw [exec_frame_drained h hp, drainedEvent_frameBytes, if_pos hu]

/-- Drained, a frame whose opcode selects EV_OTHER is reported so, usable or not. -/
theorem exec_other_drained (hclass : eventClass Config.startup o p.p2 = .other) (hp : s.phase = .drainRx) :
    exec i s = .next (State.decoded (frameBytes o p).toList { s with
      rxbuf := frameBytes o p, rxlen := 8, phase := .drainTest
      evlog := s.evlog ++ [⟨.other, o, p.p2, dstatOf (frameBytes o p) 8⟩]
      line := strobe s.level ⟨.other, o, p.p2, dstatOf (frameBytes o p) 8⟩ s.line }) := by
  rw [exec_frame_drained h hp, drainedEvent_frameBytes, hclass, ite_self]

end

/-! The arms and classes of the families: no opcode belongs to two. -/

theorem replyArm_query {o : Byte} (h : isQuery o = true) : replyArm o = .value := if_pos h

/-- The notification opcodes (`00_scope.md` rule R8). -/
abbrev notifOpcodes : List Byte := [0x3A, 0x3B, 0x3C, 0x3D, 0x3F]

theorem isNotif_iff (o : Byte) : isNotif o = true ↔ o ∈ notifOpcodes := by
  simp [isNotif, or_assoc]

theorem replyArm_notif {o : Byte} (h : isNotif o = true) : replyArm o = .falsy := by
  have hfalsy : ∀ n ∈ notifOpcodes, replyArm n = .falsy := by decide
  exact hfalsy o ((isNotif_iff o).mp h)

theorem eventClass_not_notif {o : Byte} (h : isNotif o = false) (c : StartupCodes) (p2 : Byte) :
    eventClass c o p2 = .other := by
  simp only [isNotif, Bool.or_eq_false_iff, beq_eq_false_iff_ne] at h
  obtain ⟨⟨⟨⟨hinsert, hremoved⟩, husb⟩, husd⟩, hstartup⟩ := h
  rw [eventClass, if_neg hinsert, if_neg hremoved, if_neg husb, if_neg husd, if_neg hstartup]

theorem isNotif_query {o : Byte} (h : isQuery o = true) : isNotif o = false := by
  have hnone : ∀ q ∈ queryOpcodes, isNotif q = false := by decide
  exact hnone o ((isQuery_iff o).mp h)

/-! The families as rows of the frame table. -/

/-- The rows of the frame table whose opcode satisfies `q`. -/
def rowsWhere (q : Byte → Bool) : List (Byte × (Payload → Instr)) := frameRows.filter fun r => q r.1

/-- Such a row's instruction encodes as its frame. -/
theorem encode_rowsWhere {q : Byte → Bool} {r : Byte × (Payload → Instr)} (hr : r ∈ rowsWhere q) (p : Payload) :
    encode (r.2 p) = (frameBytes r.1 p).toList ∧ q r.1 = true := by
  obtain ⟨hrow, hq⟩ := List.mem_filter.mp hr
  refine ⟨?_, hq⟩
  simp only [encode, (frameRows_fit r hrow p State.reset).1]

theorem query_row {o : Byte} {i : Instr} {p : Payload} (h : (o, i) ∈ (rowsWhere isQuery).map fun r => (r.1, r.2 p)) :
    encode i = (frameBytes o p).toList ∧ isQuery o = true := by
  obtain ⟨r, hr, heq⟩ := List.mem_map.mp h
  cases heq
  exact encode_rowsWhere hr p

/-- A notification opcode's instruction, with the class its opcode selects. -/
theorem notif_row {o : Byte} {i : Instr} {c : EvClass} {p : Payload}
    (h : (o, i, c) ∈ (rowsWhere isNotif).map fun r => (r.1, r.2 p, eventClass Config.startup r.1 p.p2)) :
    encode i = (frameBytes o p).toList ∧ isNotif o = true ∧ eventClass Config.startup o p.p2 = c := by
  obtain ⟨r, hr, heq⟩ := List.mem_map.mp h
  cases heq
  obtain ⟨henc, hn⟩ := encode_rowsWhere hr p
  exact ⟨henc, hn, rfl⟩

/-- ACK and NAK, with what their arms give. -/
theorem answer_row {o : Byte} {i : Instr} {r : Byte} {k : RKind} {p : Payload}
    (h : (o, i, r, k) ∈ [(Opcode.ack, Instr.ack p, 0x01, RKind.ack), (Opcode.nak, .nak p, p.p2, .nakCode)]) :
    encode i = (frameBytes o p).toList ∧ isNotif o = false ∧ (replyArm o).result p.p2 = r ∧ (replyArm o).kind = k := by
  rcases List.mem_pair.mp h with hack | hnak
  · cases hack
    exact ⟨rfl, rfl, rfl, rfl⟩
  · cases hnak
    exact ⟨rfl, rfl, rfl, rfl⟩

/-! The families (`45_query_reply_notify_opcodes.md` rules R167, R168, R170 to R176). -/

/-- Settles O20: a query opcode selects the value arm and EV_OTHER. (The plain name `queryOpcodes` is the list's.) -/
theorem FrameOpcodes.queryOpcodes : Obligations.QueryOpcodes := by
  intro p o i hmem s
  obtain ⟨henc, hquery⟩ := query_row (p := p) hmem
  obtain ⟨hrequest, -, -⟩ := frameOpcodesElsewhere i o p henc s
  refine ⟨exec_frame_idle henc, hrequest, fun hp ho hu => ?reply, fun hp => ?drained⟩
  case reply =>
    rw [exec_usable_reply henc hp ho hu, replyArm_query hquery]
    rfl
  case drained => exact exec_other_drained henc (eventClass_not_notif (isNotif_query hquery) _ _) hp

/-- Settles O21: ACK and NAK select arms of their own and EV_OTHER. -/
theorem ackAndNakOpcodes : Obligations.AckAndNakOpcodes := by
  intro p o i r k hmem s
  obtain ⟨henc, hnotif, hresult, hkind⟩ := answer_row hmem
  refine ⟨exec_frame_idle henc, fun hp ho hu => ?reply, fun hp => ?drained⟩
  case reply => rw [exec_usable_reply henc hp ho hu, hresult, hkind]
  case drained => exact exec_other_drained henc (eventClass_not_notif hnotif _ _) hp

/-- Settles O22: a notification opcode selects the last arm and a class of its own. -/
theorem notificationOpcodes : Obligations.NotificationOpcodes := by
  intro p o i c hmem s
  obtain ⟨henc, hnotif, hclass⟩ := notif_row (p := p) hmem
  refine ⟨exec_frame_idle henc, fun hp hu => ?drained, exec_falsy_reply henc (replyArm_notif hnotif)⟩
  case drained => rw [exec_usable_drained henc hp hu, hclass]

end Sys2Proof.Machine
end

section
/-!
The control facade (`46_facade.md` rules R190 to R214; log entry 15): the host's operand writes while the block is
idle, the written line XCHG they begin, and the facade operations, each of which is one such line.
-/

namespace Sys2Proof.Machine

/-! Register writes of the host while the block is idle (`10_state.md` rule R30). -/

/-- The host's turns that write each value to its register number, in order. -/
def registerWrites (ws : List (Nat × Byte)) : List Turn := ws.map fun w => .hostWrite w.1 w.2

/-- `s` with each value written to the register its number names, in order. -/
def State.writeAll (ws : List (Nat × Byte)) (s : State) : State := ws.foldl (fun u w => u.writeIdle (regAt w.1) w.2) s

theorem writeIdle_phase (s : State) (r : Reg) (v : Byte) : (s.writeIdle r v).phase = s.phase := by
  rw [writeIdle_frame]

/-- A write does not touch the schedule. -/
theorem writeIdle_withAgenda (ts : List Turn) (s : State) (r : Reg) (v : Byte) :
    (s.withAgenda ts).writeIdle r v = (s.writeIdle r v).withAgenda ts := by
  cases r <;> rfl

/-- A scheduled write to a writable register is done in one step. -/
theorem step_registerWrite {s : State} (hp : s.phase = .idle) {n : Nat} (hn : n ∈ writableNumbers) (v : Byte)
    (ts : List Turn) :
    step (s.withAgenda (.hostWrite n v :: ts)) = .next ((s.writeIdle (regAt n) v).withAgenda ts) := by
  obtain ⟨hlt, -, hcmd, herr⟩ := writableNumbers_writable n hn
  have hidle : (s.withAgenda ts).busy = false := by simp [State.busy, State.withAgenda, hp]
  calc step (s.withAgenda (.hostWrite n v :: ts))
    _ = hostWrite n v (s.withAgenda ts) := step_withAgenda _ ts s
    _ = .next ((s.withAgenda ts).writeIdle (regAt n) v) := by rw [hostWrite_other n v _ hlt hcmd herr, hidle]; rfl
    _ = .next ((s.writeIdle (regAt n) v).withAgenda ts) := by rw [writeIdle_withAgenda]

/-- Scheduled writes to writable registers are done in as many steps. -/
theorem run_registerWrites (ws : List (Nat × Byte)) (hws : ∀ w ∈ ws, w.1 ∈ writableNumbers) (ts : List Turn)
    {s : State} (hp : s.phase = .idle) :
    core.run ws.length (s.withAgenda (registerWrites ws ++ ts)) = .next ((s.writeAll ws).withAgenda ts) := by
  induction ws generalizing s with
  | nil => rfl
  | cons w ws ih =>
    obtain ⟨hw, hrest⟩ := List.forall_mem_cons.mp hws
    have hstep := step_registerWrite hp hw w.2 (registerWrites ws ++ ts)
    have hidle : (s.writeIdle (regAt w.1) w.2).phase = .idle := (writeIdle_phase s _ _).trans hp
    exact (run_succ hstep ws.length).trans (ih hrest hidle)

/-! The written line XCHG (`30_encoding.md` rule R69). -/

/-- `s` with the four operand registers loaded. -/
def State.withOperands (o f p1 p2 : Byte) (s : State) : State :=
  { s with argOpc := o, argFb := f, argP1 := p1, argP2 := p2 }

/-- The four operand writes load the four operand registers. -/
theorem run_operandWrites (o f p1 p2 : Byte) (ts : List Turn) {s : State} (hp : s.phase = .idle) :
    core.run 4 (s.withAgenda (operandWrites o f p1 p2 ++ ts)) = .next ((s.withOperands o f p1 p2).withAgenda ts) :=
  run_registerWrites [(0x01, o), (0x02, f), (0x03, p1), (0x04, p2)] (by simp [writableNumbers]) ts hp

/-- The code 0x06 written to CMD while idle begins XCHG, whatever turns are scheduled after it. -/
theorem step_xchgCommand {s : State} (hp : s.phase = .idle) (ts : List Turn) :
    step (s.withAgenda (.hostWrite 0x00 0x06 :: ts)) = .next ((beginXchg s).withAgenda ts) :=
  (step_withAgenda _ ts s).trans (congrArg Host.Outcome.next (issue_idle beginXchg _ hp))

/-- The line `XCHG o, f, p1, p2` loads the operands and begins the exchange. -/
theorem run_lineXchg (o f p1 p2 : Byte) (ts : List Turn) {s : State} (hp : s.phase = .idle) :
    core.run 5 (s.withAgenda (lineXchg o f p1 p2 ++ ts)) =
      .next ((beginXchg (s.withOperands o f p1 p2)).withAgenda ts) := by
  rw [lineXchg, List.append_assoc]
  exact run_snoc (run_operandWrites o f p1 p2 _ hp) (step_xchgCommand (s := s.withOperands o f p1 p2) hp ts)

/-! The facade operations (`46_facade.md`). -/

/-- An operation that requests anything is the one XCHG line of its request, with FACADE_FB for feedback. -/
theorem turns_of_request {op : FacadeOp} {o p1 p2 : Byte} (h : op.request? = some (o, p1, p2)) :
    op.turns = lineXchg o Config.facadeFb p1 p2 := by
  rw [FacadeOp.turns, h]

/-- An operation that requests nothing takes no turn of the host. -/
theorem turns_of_no_request {op : FacadeOp} (h : op.request? = none) : op.turns = [] := by
  rw [FacadeOp.turns, h]

/-- Settles O59: the turns are one XCHG line, which loads the operands and begins the exchange. -/
theorem facadeIssuesOneExchange : Obligations.FacadeIssuesOneExchange := by
  intro op o p1 p2 s ts hreq hp ha
  have hs : s = s.withAgenda (lineXchg o Config.facadeFb p1 p2 ++ ts) := by
    rw [← turns_of_request hreq, ← ha]
    rfl
  calc core.run 5 s
    _ = core.run 5 (s.withAgenda (lineXchg o Config.facadeFb p1 p2 ++ ts)) := congrArg (core.run 5) hs
    _ = .next ((beginXchg (s.withOperands o Config.facadeFb p1 p2)).withAgenda ts) := run_lineXchg _ _ _ _ ts hp

/-- The clamp is the minimum of the volume and VOL_MAX. -/
theorem clampVolume_eq (v : Byte) : clampVolume v = BitVec.ofNat 8 (min v.toNat 30) := by
  have hmax : v ≤ Config.volMax ↔ v.toNat ≤ 30 := BitVec.le_def
  rw [clampVolume]
  split_ifs with h
  · rw [min_eq_left (hmax.mp h), BitVec.ofNat_toNat, BitVec.setWidth_eq]
  · rw [min_eq_right (not_le.mp (hmax.not.mp h)).le]
    rfl

/-- What `setMode` requests is the opcode of the mode its argument selects, if it selects one. -/
theorem setMode_request (m : Byte) :
    (FacadeOp.setMode m).request? = (Config.playModeOf m).map fun k => (modeOpcode k, 0, 0) := rfl

/-- Settles O60: the volume by its clamp, the mode by the cases of what the argument selects. -/
theorem setVolumeAndSetMode : Obligations.SetVolumeAndSetMode := by
  refine ⟨fun v => ?volume, fun m => ?mode⟩
  case volume =>
    rw [← clampVolume_eq]
    rfl
  case mode =>
    have hreq := setMode_request m
    cases hmode : Config.playModeOf m with
    | none => exact turns_of_no_request (by rw [hreq, hmode, Option.map_none])
    | some k =>
      rw [hmode, Option.map_some] at hreq
      cases k <;> exact turns_of_request hreq

end Sys2Proof.Machine
end

section
/-!
The only stop of the machine (`93_implementation_defined.md` U16; log entry 6): a turn either is a host access above
the register map, which is refused, or is answered with a next state.
-/

namespace Sys2Proof.Machine

/-! The turns that are no host access outside the map. -/

theorem writeCommand_answers (v : Byte) (s : State) : ∃ t, writeCommand v s = .next t := by
  unfold writeCommand
  split
  · exact exec_answers _ s
  · exact ⟨_, rfl⟩

/-- The host's write to a register of the block neither faults nor is refused. -/
theorem hostWrite_in_answers {n : Nat} (h : n < regCount) (v : Byte) (s : State) : ∃ t, hostWrite n v s = .next t := by
  unfold hostWrite
  rw [if_pos h]
  split
  · exact writeCommand_answers v s
  · exact ⟨_, rfl⟩
  · exact ⟨_, rfl⟩

theorem clockStep_answers (bc n : Nat) (rx : Bool) (s : State) : ∃ t, clockStep bc n rx s = .next t := by
  unfold clockStep
  dsimp only
  split
  · exact frameReadEnds_answers _
  · exact ⟨_, rfl⟩

theorem clockTurn_answers (rx : Bool) (s : State) : ∃ t, clockTurn rx s = .next t := by
  unfold clockTurn
  split
  · exact clockStep_answers _ _ rx s
  · exact ⟨_, rfl⟩

/-! The host's accesses outside the map. -/

/-- The turn is a host access at register number `n`, which is outside the map. -/
def AccessesOutside (t : Turn) (n : Nat) : Prop :=
  0x40 ≤ n ∧ (t = .hostRead n ∨ ∃ v, t = .hostWrite n v)

theorem takeTurn_outside {t : Turn} {n : Nat} (h : AccessesOutside t n) (s : State) :
    takeTurn t s = .refused (.registerOutsideMap n) := by
  obtain ⟨hn, rfl | ⟨v, rfl⟩⟩ := h
  · exact hostRead_out n s hn.not_gt
  · exact hostWrite_out n v s hn.not_gt

/-- Every turn but a host access outside the map is answered with a next state. -/
theorem takeTurn_answers_or_outside (t : Turn) (s : State) :
    (∃ u, takeTurn t s = .next u) ∨ ∃ n, AccessesOutside t n := by
  cases t with
  | hostRead n =>
    by_cases hn : n < regCount
    · exact .inl ⟨_, hostRead_in n s hn⟩
    · exact .inr ⟨n, not_lt.mp hn, .inl rfl⟩
  | hostWrite n v =>
    by_cases hn : n < regCount
    · exact .inl (hostWrite_in_answers hn v s)
    · exact .inr ⟨n, not_lt.mp hn, .inr ⟨v, rfl⟩⟩
  | seq => exact .inl (seqStep_answers s)
  | arrive b => exact .inl (linkTurn_answers b 0 s)
  | arriveAndErrWrite b v => exact .inl (linkTurn_answers b (v.setWidth 3) s)
  | timeout => exact .inl (timerTurn_answers s)
  | rst => exact .inl ⟨_, rfl⟩
  | clk rx => exact .inl (clockTurn_answers rx s)

/-- A turn's refusal names the register number outside the map at which the host's access was made. -/
theorem takeTurn_refused_iff (t : Turn) (s : State) (r : Refusal) :
    takeTurn t s = .refused r ↔ ∃ n, AccessesOutside t n ∧ r = .registerOutsideMap n := by
  constructor
  case mp =>
    intro h
    rcases takeTurn_answers_or_outside t s with ⟨u, hu⟩ | ⟨n, hn⟩
    · cases hu.symm.trans h
    · exact ⟨n, hn, Host.Outcome.refused.inj (h.symm.trans (takeTurn_outside hn s))⟩
  case mpr =>
    rintro ⟨n, hn, rfl⟩
    exact takeTurn_outside hn s

/-- Settles O39: a step takes its next turn, and that turn's refusal says which access it was. -/
theorem onlyOutsideRegistersRefused : Obligations.OnlyOutsideRegistersRefused := by
  intro s r
  rw [step_takes, takeTurn_refused_iff]
  exact exists_congr fun _ => and_right_comm.trans and_assoc

end Sys2Proof.Machine
end

section
/-!
The reset input (`70_reset_and_hazards.md` rule R250; log entries 1, 16 and 28): its turn is `resetBlock`, which takes
from the state before it only the level and the schedule.
-/

namespace Sys2Proof.Machine

theorem takeTurn_rst (s : State) : takeTurn .rst s = .next (resetBlock s) := rfl

/-- Spending a turn moves the schedule only, so a reset after it keeps the level of the state before. -/
theorem resetBlock_turnSpent (s : State) :
    resetBlock s.turnSpent =
      { State.reset with level := s.level, agenda := s.turnSpent.agenda, later := s.turnSpent.later } := by
  rw [resetBlock, turnSpent_level]

/-- Settles O38: the turn is `rst`, and no other field of the state is read. -/
theorem rstFromAnyState : Obligations.RstFromAnyState := by
  intro s hturn
  rw [step_takes, hturn, takeTurn_rst, resetBlock_turnSpent]

end Sys2Proof.Machine
end
